-- ==== Sys2Proof/Word.lean ====
section
/-! DEFINITION. The plain word types of the part: bytes, counter values, domain and source numbers. -/

namespace Sys2Proof

/-- One byte of a frame (Table 9-1). -/
abbrev Byte := BitVec 8

/-- A reading of the fine or the milli counter (R88, R89): 16 bits that wrap. -/
abbrev Tick := BitVec 16

/-- A supply domain D0–D9. -/
abbrev DomainId := Fin 10

/-- A wake source W0–W15. -/
abbrev SourceId := Fin 16

/-- A plan slot 0–6 (Table 1-2). -/
abbrev SlotId := Fin 7

/-- One of the eight configuration items: plans 0–6 and the domain set (R165). -/
abbrev ItemId := Fin 8

end Sys2Proof
end

