-- ==== Sys2Proof/Syntax.lean ====
section
/-! DEFINITION. The commands of the block: one constructor per row of spec/opcode_table.json. -/

namespace Sys2Proof

/-- The two link ports: UP faces the hub, DN the downstream segment. -/
inductive Port where
  | up
  | dn
  deriving DecidableEq, Repr

/-- The two wake lines WAKEA and WAKEB (R106). -/
inductive WakeLine where
  | a
  | b
  deriving DecidableEq, Repr

/-- The restore-policy strap RPOL (R20). -/
inductive Strap where
  | autoOn
  | stayOff
  deriving DecidableEq, Repr

/-- The three writable staged tables: 1 plan headers, 2 plan steps, 5 domain configuration (R165). -/
inductive StagedTable where
  | planHeader
  | planStep
  | domainConfig
  deriving DecidableEq, Repr

/-- The commands, in the order of spec/opcode_table.json. Commands that firmware sends carry the tag of
the CFG frame and its operands; `values` are the bytes of the selected fields as R184 lays them out. -/
inductive Instr where
  /-- POWER_ON_RESET (R19) with the sampled levels of the strap and the input lines. -/
  | powerOnReset (strap : Strap) (wakeA wakeB buttonLow : Bool) (pg : BitVec 10)
  /-- LINK_UP (R162). -/
  | linkUp (p : Port)
  /-- LINK_DOWN (R161). -/
  | linkDown (p : Port)
  /-- FRAME_RECEIVED (R149): the line receiver ends a sequence of bytes. -/
  | frameReceived (p : Port) (bytes : List Byte)
  /-- FRAME_TAKEN (R157): the frame at a receive head is judged and, if it may be, taken. -/
  | frameTaken (p : Port)
  /-- PARTNER_READY_ASSERTED (R155). -/
  | partnerReadyAsserted (p : Port)
  /-- TRANSMISSION_END (R155). -/
  | transmissionEnd (p : Port)
  /-- EMIT_FRAME_PLACED (R32). -/
  | emitFramePlaced
  /-- SYNC_COMPLETE (R33). -/
  | syncComplete
  /-- ROLLBACK_SIGNAL_PLACED (R52). -/
  | rollbackSignalPlaced
  /-- PG_RISE (R71). -/
  | pgRise (d : DomainId)
  /-- PG_FALL (R72). -/
  | pgFall (d : DomainId)
  /-- HOLD_OFF_EXPIRY (R74). -/
  | holdOffExpiry (d : DomainId)
  /-- OVERRANGE_EXPIRY (R96). -/
  | overrangeExpiry (d : DomainId)
  /-- BUDGET_EXPIRY (R25). -/
  | budgetExpiry
  /-- PARK_LIMIT (R35). -/
  | parkLimit
  /-- ROLLBACK_WAIT_EXPIRY (R50). -/
  | rollbackWaitExpiry
  /-- WAKE_LINE_ASSERTION (R106). -/
  | wakeLineAssertion (l : WakeLine)
  /-- PRESS_EDGE (R121). -/
  | pressEdge
  /-- RELEASE (R124). -/
  | release
  /-- DEBOUNCE_EXPIRY (R122). -/
  | debounceExpiry
  /-- OVERRIDE_EXPIRY (R125). -/
  | overrideExpiry
  /-- INDICATOR_PHASE_ADVANCE (R128). -/
  | indicatorPhaseAdvance
  /-- APPLY_NOW (R171): the argument is the item mask. -/
  | applyNow (tag : BitVec 4) (arg : BitVec 16)
  /-- APPLY_AT_REST (R172): the argument is the item mask. -/
  | applyAtRest (tag : BitVec 4) (arg : BitVec 16)
  /-- CLEAR_NOTICES (R186): the argument is the notice mask. -/
  | clearNotices (tag : BitVec 4) (arg : BitVec 16)
  /-- SET_NOTICE_ENABLE (R186): the argument is the notice mask. -/
  | setNoticeEnable (tag : BitVec 4) (arg : BitVec 16)
  /-- RESTORE_STAGED (R176): the argument is ignored. -/
  | restoreStaged (tag : BitVec 4) (arg : BitVec 16)
  /-- CLEAR_TRIP_RECORD (R56): the argument is ignored. -/
  | clearTripRecord (tag : BitVec 4) (arg : BitVec 16)
  /-- CLEAR_COUNTERS (R186): the argument is ignored. -/
  | clearCounters (tag : BitVec 4) (arg : BitVec 16)
  /-- STAGED_WRITE (R166). -/
  | stagedWrite (tag : BitVec 4) (table : StagedTable) (index : Byte) (mask : BitVec 16) (values : List Byte)
  /-- SIGNAL_TABLE_WRITE (R132). -/
  | signalTableWrite (tag : BitVec 4) (index : Byte) (mask : BitVec 16) (values : List Byte)
  /-- WAKE_TABLE_WRITE (R104). -/
  | wakeTableWrite (tag : BitVec 4) (index : Byte) (mask : BitVec 16) (values : List Byte)
  /-- CAPTURE_RECORD_CLEAR (R116). -/
  | captureRecordClear (tag : BitVec 4) (index : Byte) (mask : BitVec 16) (values : List Byte)
  /-- AGENT_TABLE_WRITE (R160). -/
  | agentTableWrite (tag : BitVec 4) (index : Byte) (mask : BitVec 16) (values : List Byte)
  /-- COUNTING_ENABLE_WRITE (R87). -/
  | countingEnableWrite (tag : BitVec 4) (index : Byte) (mask : BitVec 16) (values : List Byte)
  /-- INDICATOR_PATTERN_WRITE (R126). -/
  | indicatorPatternWrite (tag : BitVec 4) (index : Byte) (mask : BitVec 16) (values : List Byte)
  /-- BUTTON_TIMES_WRITE (R120). -/
  | buttonTimesWrite (tag : BitVec 4) (index : Byte) (mask : BitVec 16) (values : List Byte)
  /-- DOMAIN_STATUS_READ (R85, R185): the table's one row for a CFG_RD, of table 7 or of any other. -/
  | domainStatusRead (tag : BitVec 4) (table index : Byte)
  /-- CFG_WR (R184): a write of any table by its id. -/
  | cfgWr (tag : BitVec 4) (table index : Byte) (mask : BitVec 16) (values : List Byte)
  /-- NOTE_QUEUED (R191). -/
  | noteQueued
  /-- PARTNER_READY_DEASSERTED (R155). -/
  | partnerReadyDeasserted (p : Port)
  /-- WAKE_LINE_FALLING_EDGE (R106). -/
  | wakeLineFallingEdge (l : WakeLine)
  deriving DecidableEq, Repr

end Sys2Proof
end

