-- ==== Sys2Proof/Config.lean ====
section
/-! DEFINITION. What the spec leaves to the board or to the model, as named constants. No value of the spec
is left undefined as the result of a command, so there is no free value here (NOTES.md, Assumptions). -/

namespace Sys2Proof.Config

/-- DESIGN CHOICE (log 14). The most pieces of work one event may set off before the model stops with a
fault of its own. Every event of a machine whose active set is valid sets off far fewer. -/
def chainFuel : Nat := 4294967296

/-- DESIGN CHOICE (log 4), unsafe. The strap that `State.reset` takes as sampled. -/
def resetStrap : Strap := .stayOff

/-- DESIGN CHOICE (log 4), unsafe. The level of both wake lines that `State.reset` takes as sampled: low. -/
def resetWakeLevel : Bool := false

/-- DESIGN CHOICE (log 4), unsafe. `State.reset` takes PWRBTN_N as released (high). -/
def resetButtonLow : Bool := false

/-- DESIGN CHOICE (log 4), unsafe. The level of every power-good input that `State.reset` takes as sampled: low. -/
def resetPowerGood : Bool := false

/-- DESIGN CHOICE (log 5), unsafe. The partner's ready on both links right after reset: deasserted. -/
def resetPartnerReady : Bool := false

end Sys2Proof.Config
end

