-- ==== Sys2Proof/Machine/Records.lean ====
section
/-! DEFINITION. The named values and records that the part's state is made of. Codes on the wire are given in
Operands.lean; the rule that names each record is cited with it. -/

namespace Sys2Proof.Machine

open Sys2Proof

/-! ## Platform states, requests and records of the sequencer (chapters 1 to 3) -/

/-- The eleven platform states of Table 1-1 (R1), in the order of Table 11-4. -/
inductive PlatformState where
  | run
  | checking
  | parked
  | committing
  | suspended
  | hibernated
  | softOff
  | waking
  | returning
  | tripping
  | tripped
  deriving DecidableEq, Repr

/-- A low-power state the hub may ask for (R4): SUSPEND, HIBERNATE or OFF. -/
inductive LowState where
  | suspend
  | hibernate
  | off
  deriving DecidableEq, Repr

/-- The requested state (R4): RUN or a low state. -/
inductive Requested where
  | run
  | low (t : LowState)
  deriving DecidableEq, Repr

/-- A signal level (00_scope.md, Conventions). -/
inductive Level where
  | deasserted
  | asserted
  deriving DecidableEq, Repr

/-- A tracked level (R131): a level, or UNKNOWN. -/
inductive Tracked where
  | deasserted
  | asserted
  | unknown
  deriving DecidableEq, Repr

/-- The cause of an exit plan, or of the pending-wake mark (R16, R18). -/
inductive WakeCause where
  | source (n : SourceId)
  | hub
  | powerRestore
  deriving DecidableEq, Repr

/-- The last abort cause (R47). -/
inductive AbortCause where
  | cancel
  | veto
  | wake (n : SourceId)
  | step (i : Nat)
  | parkLimit
  deriving DecidableEq, Repr

/-- The seven trip causes with their details (R54). -/
inductive TripCause where
  | criticalFault (d : DomainId)
  | thermal
  | rollbackFailed
  | exitFailed (i : Nat)
  | entryFailed (i : Nat)
  | retryExhausted (i : Nat)
  | override
  deriving DecidableEq, Repr

/-- The trip-cause record (R56): the first cause, and the count of later causes, 0–255. -/
structure TripRecord where
  first : Option TripCause
  secondary : Nat
  deriving DecidableEq, Repr

/-- The trip target (R54, R62). -/
inductive TripTarget where
  | tripped
  | softOff
  deriving DecidableEq, Repr

/-! ## Plans (chapter 2) -/

/-- The eleven step kinds (Table 2-1), in the order of Table 11-4. -/
inductive StepKind where
  | enable
  | disable
  | awaitGood
  | awaitLow
  | delay
  | emit
  | sync
  | guard
  | park
  | commit
  | retry
  deriving DecidableEq, Repr

/-- The unit of a step's budget (Table 2-1). -/
inductive StepUnit where
  | fine
  | milli
  | learned
  deriving DecidableEq, Repr

/-- A step's failure action (Table 2-1). -/
inductive FailAction where
  | abort
  | trip
  | cont
  deriving DecidableEq, Repr

/-- The domain-or-port field of a step (Table 2-1). -/
inductive DomOrPort where
  | domain (d : DomainId)
  | port (p : Port)
  deriving DecidableEq, Repr

/-- A step record (Table 2-1, R21). -/
structure Step where
  kind : StepKind
  unit : StepUnit
  action : FailAction
  place : DomOrPort
  level : Level
  signal : Byte
  agent : BitVec 4
  budget : Nat
  retryTarget : Nat
  retryCount : Nat
  label : Byte
  deriving DecidableEq, Repr

/-- A plan record (R21): the header's step count and the 32 step records. -/
structure Plan where
  count : Nat
  steps : Vector Step 32
  deriving DecidableEq, Repr

/-- The portion of the running-plan context (R22). -/
inductive Portion where
  | none
  | check
  | commit
  | exit
  | trip
  | rollback
  deriving DecidableEq, Repr

/-- The counter in which a wait is measured (R89, R90). -/
inductive Clock where
  | fine
  | milli
  deriving DecidableEq, Repr

/-- A record of the undo stack (R43). -/
inductive UndoRecord where
  | domain (d : DomainId) (wasOn : Bool)
  | signal (p : Port) (sig : Byte) (prior : Level)
  deriving DecidableEq, Repr

/-- What the current step, the exit plan's start, or the rollback's current record waits for. A request
deferred by the domain controller (R68) is held here against its domain (log 17). -/
inductive Wait where
  /-- Nothing waits. -/
  | idle
  /-- The exit plan's step 0 waits until no present pinned domain is RISING (R3). -/
  | pinned
  /-- An ENABLE step's request is deferred by hold-off (R27). -/
  | enable (d : DomainId)
  /-- AWAIT_GOOD (R29). -/
  | good (d : DomainId)
  /-- AWAIT_LOW (R30). -/
  | low (d : DomainId)
  /-- DELAY (R31). -/
  | delay
  /-- EMIT waits for space in the port's own queue (R32). -/
  | space (p : Port) (sig : Byte) (l : Level)
  /-- SYNC waits for the port's own frames to drain (R33). -/
  | drain (p : Port)
  /-- GUARD waits for a tracked level on its key (R34). -/
  | level (p : Port) (agent : BitVec 4) (sig : Byte) (l : Level)
  /-- PARK waits for the hub's release (R35). -/
  | release
  /-- A rollback record's enable request is deferred (R50). -/
  | rollbackEnable (d : DomainId)
  /-- A rollback record waits for ON (R50). -/
  | rollbackGood (d : DomainId)
  /-- A rollback record waits for OFF (R51). -/
  | rollbackLow (d : DomainId)
  /-- A rollback signal record waits for queue space (R52). -/
  | rollbackSpace (p : Port) (sig : Byte) (l : Level)
  deriving DecidableEq, Repr

/-- The running-plan context (R22), with the rollback's current record (R49) and the trip target (R62). -/
structure PlanContext where
  slot : Option SlotId
  index : Nat
  portion : Portion
  clock : Clock
  startTick : Tick
  budget : Option Nat
  retries : Vector Nat 32
  failMark : Bool
  wait : Wait
  record : Option UndoRecord
  tripTarget : Option TripTarget
  deriving DecidableEq, Repr

/-! ## Domains (chapters 4 and 5) -/

/-- A domain configuration record (R63). -/
structure DomainConfig where
  present : Bool
  parent : Option DomainId
  pinned : Bool
  critical : Bool
  riseMin : Nat
  riseMax : Nat
  fallMin : Nat
  fallMax : Nat
  holdMin : Nat
  deriving DecidableEq, Repr

/-- The five domain states (R66). -/
inductive DomainState where
  | off
  | rising
  | on
  | falling
  | fault
  deriving DecidableEq, Repr

/-- The causes of a FAULT entry (R76). -/
inductive FaultCause where
  | timeout
  | pgLost
  | parentLost
  deriving DecidableEq, Repr

/-- The class of a captured ramp (R97). -/
inductive RampClass where
  | fast
  | ok
  | slow
  deriving DecidableEq, Repr

/-- A captured ramp (R94): its value in fine ticks and its class. -/
structure Ramp where
  value : Nat
  cls : RampClass
  deriving DecidableEq, Repr

/-- A running hold-off (R74): its start tick and its length, fixed at the start. -/
structure HoldOff where
  start : Tick
  length : Nat
  deriving DecidableEq, Repr

/-- The eight statistics counters of a domain (R86). -/
structure DomainStats where
  riseOk : Nat
  riseFast : Nat
  riseSlow : Nat
  fallOk : Nat
  fallFast : Nat
  fallSlow : Nat
  timeouts : Nat
  faults : Nat
  deriving DecidableEq, Repr

/-- A domain's runtime record (R65). -/
structure DomainRuntime where
  state : DomainState
  cause : Option FaultCause
  pg : Bool
  rampStart : Tick
  overrange : Bool
  lastRise : Option Ramp
  lastFall : Option Ramp
  riseAvg : Option Nat
  fallAvg : Option Nat
  hold : Option HoldOff
  stray : Bool
  change : Bool
  stats : DomainStats
  counting : Bool
  deriving DecidableEq, Repr

/-! ## Sets (chapter 10) -/

/-- One copy of the eight items (R165): the plans of slots 0–6 and the domain set. -/
structure ConfigSet where
  plans : Vector Plan 7
  domains : Vector DomainConfig 10
  deriving DecidableEq, Repr

/-- The configuration status of an item (R174), in the order of Table 11-4. -/
inductive ApplyStatus where
  | none
  | success
  | inProgress
  | rejEmpty
  | rejShape
  | rejReference
  | rejDomainGraph
  | rejLive
  deriving DecidableEq, Repr

/-! ## Wake unit (chapter 6) -/

/-- The binding of a wake source (R102). -/
inductive Binding where
  | signal
  | lineA
  | lineB
  | button
  deriving DecidableEq, Repr

/-- A wake-table record (R102). The arm mask is laid out as Table 11-4 gives: bit 0 SUSPENDED, bit 1
HIBERNATED, bit 2 SOFT_OFF, bit 3 TRIPPED. -/
structure WakeRecord where
  enabled : Bool
  binding : Binding
  arm : BitVec 4
  abortFlag : Bool
  needs : Option DomainId
  deriving DecidableEq, Repr

/-- The effect field of a capture record (R109). -/
inductive CaptureEffect where
  | none
  | woke
  | aborted
  | pended
  deriving DecidableEq, Repr

/-- A capture record (R109). -/
structure CaptureRecord where
  captured : Bool
  count : Nat
  overwritten : Bool
  milli : Tick
  platform : Option PlatformState
  effect : CaptureEffect
  deriving DecidableEq, Repr

/-! ## Button and indicator unit (chapter 7) -/

/-- The button's hold state (R119). -/
inductive HoldState where
  | idle
  | debouncing
  | held
  | overridden
  deriving DecidableEq, Repr

/-- The button side of the unit (R119, R120). -/
structure ButtonUnit where
  hold : HoldState
  pressTick : Tick
  debounceInForce : Nat
  overrideInForce : Nat
  hubMark : Bool
  low : Bool
  debounce : Nat
  override : Nat
  deriving DecidableEq, Repr

/-- The mode of an indicator pattern (R126). -/
inductive IndMode where
  | off
  | on
  | blink
  deriving DecidableEq, Repr

/-- An indicator pattern (R126). -/
structure IndPattern where
  mode : IndMode
  period : Nat
  onTime : Nat
  inverted : Bool
  deriving DecidableEq, Repr

/-- The indicator side of the unit (R126 to R130). -/
structure IndicatorUnit where
  working : Vector IndPattern 4
  buffered : Vector IndPattern 4
  phase : Nat
  leadIn : Bool
  deriving DecidableEq, Repr

/-! ## Classifier and agents (chapters 8 and 9) -/

/-- The action of a signal-table entry (R131). -/
inductive SigAction where
  | pass
  | drop
  | map
  deriving DecidableEq, Repr

/-- A signal-table entry (R131). -/
structure SignalEntry where
  inUse : Bool
  port : Port
  agent : BitVec 4
  signal : Byte
  action : SigAction
  newNumber : Byte
  track : Bool
  wake : Option SourceId
  request : Option LowState
  veto : Bool
  trip : Bool
  release : Bool
  level : Tracked
  deriving DecidableEq, Repr

/-- An agent-table record (R160). -/
structure AgentRecord where
  present : Bool
  powering : Option DomainId
  misses : Nat
  deriving DecidableEq, Repr

/-! ## Link (chapter 9) -/

/-- The seven frame kinds (Table 9-1). -/
inductive FrameKind where
  | sig
  | xfer
  | xferReply
  | cfgWr
  | cfgRd
  | cfgRsp
  | note
  deriving DecidableEq, Repr

/-- A frame (Table 9-1). Its check value is computed from these by R148 (log 12). -/
structure Frame where
  kind : FrameKind
  tag : BitVec 4
  dest : BitVec 4
  source : BitVec 4
  body : List Byte
  deriving DecidableEq, Repr

/-- The seven queues (R153). -/
inductive QueueId where
  | upOwn
  | upFwdSig
  | upRsp
  | upBulk
  | dnOwn
  | dnFwd
  | cfgIn
  deriving DecidableEq, Repr

/-- The contents of the seven queues, oldest frame first (R153). -/
structure Queues where
  upOwn : List Frame
  upFwdSig : List Frame
  upRsp : List Frame
  upBulk : List Frame
  dnOwn : List Frame
  dnFwd : List Frame
  cfgIn : List Frame
  deriving DecidableEq, Repr

/-- The state of one link port (R146). -/
structure PortState where
  linkUp : Bool
  head : Option Frame
  partnerReady : Bool
  sending : Option (QueueId × Frame)
  errors : Nat
  discards : Nat
  deriving DecidableEq, Repr

/-! ## Notices and configuration (chapter 11) -/

/-- The fifteen notice flags (R189), in the order of their bits. -/
inductive Notice where
  | stateChanged
  | domainChanged
  | entryAborted
  | tripped
  | wakeCaptured
  | captureOverwrite
  | pinnedHit
  | strayPower
  | agentAbsent
  | linkError
  | applyDone
  | requestRefused
  | rampOutOfWindow
  | stepFailed
  | txDiscard
  deriving DecidableEq, Repr

/-- The notice unit (R189). Bit k of a mask is flag k of R189's table. -/
structure NoticeUnit where
  flags : BitVec 15
  enables : BitVec 15
  owed : Bool
  deriving DecidableEq, Repr

/-- The CFG_RSP status codes (Table 11-2), in the order of their codes. -/
inductive CfgStatus where
  | ok
  | badTable
  | badIndex
  | badValue
  | duplicate
  | readOnly
  | busy
  | denied
  deriving DecidableEq, Repr

end Sys2Proof.Machine
end

