-- ==== Sys2Proof/Machine/Rom.lean ====
section
/-! DEFINITION. The spec's fixed figures and the ROM defaults: capacities (R153), ranges and limits, the ROM
domain set (R177), the ROM plans (R178 to R181) and the power-on contents of the live tables (R102, R120,
R126, R144, R160). -/

namespace Sys2Proof.Machine

open Sys2Proof

/-! ## Fixed figures -/

/-- R153: the capacity of each queue. -/
def capacity : QueueId → Nat
  | .upOwn => 8
  | .upFwdSig => 8
  | .upRsp => 4
  | .upBulk => 8
  | .dnOwn => 8
  | .dnFwd => 8
  | .cfgIn => 4

/-- R89: fine ticks per milli tick. -/
def finePerMilli : Nat := 1024

/-- R52: the fixed budget of a rollback signal record, in fine ticks. -/
def rollbackSignalBudget : Nat := 625

/-- R96: the elapsed time at which a ramp reaches its overrange expiry. -/
def overrangeLimit : Nat := 65535

/-- R101: the cap of a hold-off's length. -/
def holdOffCap : Nat := 60000

/-- R56: the ceiling of the secondary count. -/
def secondaryCeiling : Nat := 255

/-- R109: the ceiling of a capture record's count. -/
def captureCeiling : Nat := 255

/-- R160: the ceiling of a miss counter. -/
def missCeiling : Nat := 255

/-- R146, R86: the ceiling of the port counters and of the domain statistics. -/
def wordCeiling : Nat := 65535

/-- The signal number of the button unit's two frames (R123). -/
def buttonSignal : Byte := 0x22

/-! ## ROM domain set (R177) -/

/-- A ROM domain record: every domain has the same windows and hold_min. -/
def romDomain (parent : Option DomainId) (pinned critical : Bool) : DomainConfig :=
  { present := true, parent := parent, pinned := pinned, critical := critical,
    riseMin := 63, riseMax := 6250, fallMin := 0, fallMax := 31250, holdMin := 3125 }

/-- R177: the ROM default domain set. -/
def romDomains : Vector DomainConfig 10 :=
  #v[romDomain none true false,
     romDomain (some 0) false false,
     romDomain (some 0) false true,
     romDomain (some 2) false true,
     romDomain (some 3) false true,
     romDomain (some 1) false false,
     romDomain (some 2) false false,
     romDomain (some 2) false false,
     romDomain (some 4) false false,
     romDomain (some 0) false false]

/-! ## ROM plans (R178 to R181) -/

/-- R181: the step record that fills a plan beyond its step count. -/
def unusedStep : Step :=
  { kind := .delay, unit := .fine, action := .cont, place := .domain 0, level := .deasserted,
    signal := 0, agent := 0, budget := 0, retryTarget := 0, retryCount := 1, label := 0 }

/-- R178: an EMIT step of the ROM plans. -/
def romEmit (p : Port) (sig : Byte) (l : Level) (a : FailAction) : Step :=
  { unusedStep with kind := .emit, unit := .fine, budget := 625, place := .port p, signal := sig, level := l, action := a }

/-- R178: pair d. -/
def romPair (d : DomainId) (a : FailAction) : List Step :=
  [{ unusedStep with kind := .enable, unit := .fine, budget := 31250, place := .domain d, action := a },
   { unusedStep with kind := .awaitGood, unit := .learned, place := .domain d, action := a }]

/-- R178: dpair d. -/
def romDpair (d : DomainId) (a b : FailAction) : List Step :=
  [{ unusedStep with kind := .disable, unit := .fine, place := .domain d, action := a },
   { unusedStep with kind := .awaitLow, unit := .learned, place := .domain d, action := b }]

/-- R178, R181: a ROM plan from its steps; each label is the step's index, and the rest is filled. -/
def romPlan (steps : List Step) : Plan :=
  { count := steps.length,
    steps := Vector.ofFn fun i =>
      match steps[i.val]? with
      | some st => { st with label := BitVec.ofNat 8 i.val }
      | none => unusedStep }

/-- R179: the check portion and first emission common to plans 0 to 2, with the domains each takes down. -/
def romEntry (domains : List DomainId) : Plan :=
  romPlan <|
    [romEmit .dn 0x30 .asserted .abort,
     { unusedStep with kind := .sync, unit := .fine, budget := 625, place := .port .dn, action := .abort },
     { unusedStep with kind := .park, unit := .milli, budget := 3662, action := .abort },
     { unusedStep with kind := .commit, unit := .fine, action := .cont },
     romEmit .up 0x20 .deasserted .cont]
    ++ domains.flatMap fun d => romDpair d .trip .cont

/-- R179: plan 0, ENTER_SUSPEND. -/
def romPlan0 : Plan := romEntry [8, 4, 7, 6, 5, 3, 2]

/-- R179: plan 1, ENTER_HIBERNATE. -/
def romPlan1 : Plan := romEntry [8, 4, 7, 6, 5, 3, 2, 1]

/-- R179: plan 2, ENTER_OFF. -/
def romPlan2 : Plan := romEntry [8, 4, 7, 6, 5, 3, 2, 1, 9]

/-- R180: plan 3, EXIT_SUSPEND. -/
def romPlan3 : Plan :=
  romPlan <|
    ([2, 3, 5, 6, 7, 4, 8] : List DomainId).flatMap (fun d => romPair d .trip)
    ++ [romEmit .up 0x20 .asserted .trip, romEmit .dn 0x30 .deasserted .trip]

/-- R180: plan 5, EXIT_OFF; plan 4, EXIT_HIBERNATE, is identical to it. -/
def romPlan5 : Plan :=
  romPlan <|
    ([9, 1, 2, 3, 5, 6, 7, 4, 8] : List DomainId).flatMap (fun d => romPair d .trip)
    ++ [romEmit .up 0x20 .asserted .trip]

/-- R180: plan 6, TRIP. -/
def romPlan6 : Plan :=
  romPlan <|
    romEmit .up 0x20 .deasserted .cont
    :: ([8, 4, 7, 6, 5, 3, 2, 1, 9] : List DomainId).flatMap (fun d => romDpair d .cont .cont)

/-- R165, R177 to R181: the ROM defaults of the eight items. -/
def romSet : ConfigSet :=
  { plans := #v[romPlan0, romPlan1, romPlan2, romPlan3, romPlan5, romPlan5, romPlan6],
    domains := romDomains }

/-! ## Power-on contents of the live tables -/

/-- R131: a signal-table entry out of use. -/
def unusedEntry : SignalEntry :=
  { inUse := false, port := .up, agent := 0, signal := 0, action := .pass, newNumber := 0,
    track := false, wake := none, request := none, veto := false, trip := false, release := false,
    level := .unknown }

/-- R144: the in-use ROM entries 0 to 4. -/
def romEntries : List SignalEntry :=
  [{ unusedEntry with inUse := true, signal := 0x10, action := .drop, track := true, request := some .suspend },
   { unusedEntry with inUse := true, signal := 0x11, action := .drop, track := true, request := some .hibernate },
   { unusedEntry with inUse := true, signal := 0x12, action := .drop, track := true, request := some .off },
   { unusedEntry with inUse := true, signal := 0x13, action := .drop, track := true, release := true },
   { unusedEntry with inUse := true, signal := 0x14, action := .pass, track := true, trip := true }]

/-- R144, R131: the signal table after power-on reset. -/
def romSignals : Vector SignalEntry 64 :=
  Vector.ofFn fun i => romEntries[i.val]?.getD unusedEntry

/-- R102, R103: the fixed record of W0. -/
def wakeRecord0 : WakeRecord :=
  { enabled := true, binding := .button, arm := 0xF, abortFlag := true, needs := none }

/-- R102: the record of W1 to W15 after reset, with its binding. -/
def idleWakeRecord (b : Binding) : WakeRecord :=
  { enabled := false, binding := b, arm := 0, abortFlag := false, needs := none }

/-- R102: the wake table after power-on reset. -/
def romWakes : Vector WakeRecord 16 :=
  Vector.ofFn fun i =>
    if i.val = 0 then wakeRecord0
    else if i.val = 1 then idleWakeRecord .lineA
    else if i.val = 2 then idleWakeRecord .lineB
    else idleWakeRecord .signal

/-- R109: a clear capture record. -/
def clearCapture : CaptureRecord :=
  { captured := false, count := 0, overwritten := false, milli := 0, platform := none, effect := .none }

/-- R160: an agent record after power-on reset. -/
def romAgent : AgentRecord := { present := true, powering := none, misses := 0 }

/-- R126: the patterns P0 to P3 after power-on reset. -/
def romPatterns : Vector IndPattern 4 :=
  #v[{ mode := .on, period := 61, onTime := 61, inverted := false },
     { mode := .blink, period := 122, onTime := 61, inverted := false },
     { mode := .off, period := 61, onTime := 0, inverted := false },
     { mode := .blink, period := 31, onTime := 15, inverted := false }]

/-- R86: statistics counters all 0. -/
def zeroStats : DomainStats :=
  { riseOk := 0, riseFast := 0, riseSlow := 0, fallOk := 0, fallFast := 0, fallSlow := 0, timeouts := 0, faults := 0 }

/-- R65: a runtime record after power-on reset, with the sampled power-good level. -/
def resetDomain (pg : Bool) : DomainRuntime :=
  { state := .off, cause := none, pg := pg, rampStart := 0, overrange := false, lastRise := none, lastFall := none,
    riseAvg := none, fallAvg := none, hold := none, stray := false, change := false, stats := zeroStats,
    counting := false }

/-- R22: the released running-plan context. The fields the rule does not name hold DESIGN CHOICE values (log 5). -/
def releasedContext : PlanContext :=
  { slot := none, index := 0, portion := .none, clock := .fine, startTick := 0, budget := none,
    retries := Vector.replicate 32 0, failMark := false, wait := .idle, record := none, tripTarget := none }

/-- R120, R119: the button side after power-on reset, with the sampled level of PWRBTN_N. The times in
force, which the rules leave open until the first press edge, hold the settings (DESIGN CHOICE, log 5). -/
def resetButton (low : Bool) : ButtonUnit :=
  { hold := .idle, pressTick := 0, debounceInForce := 2, overrideInForce := 244, hubMark := false, low := low,
    debounce := 2, override := 244 }

/-- R126, R127: the indicator side after power-on reset: P2 is selected with the phase at 0, as a selection
change does, so a lead-in runs (R130). -/
def resetIndicator : IndicatorUnit :=
  { working := romPatterns, buffered := romPatterns, phase := 0, leadIn := true }

/-- R146: a port after power-on reset. -/
def resetPort : PortState :=
  { linkUp := false, head := none, partnerReady := Config.resetPartnerReady, sending := none, errors := 0, discards := 0 }

/-- R146: every queue empty. -/
def emptyQueues : Queues :=
  { upOwn := [], upFwdSig := [], upRsp := [], upBulk := [], dnOwn := [], dnFwd := [], cfgIn := [] }

/-- R189: the notice unit after power-on reset: flags clear, TRIPPED (bit 3) alone enabled, nothing owed. -/
def resetNotices : NoticeUnit := { flags := 0, enables := 0x8, owed := false }

end Sys2Proof.Machine
end

