-- ==== Sys2Proof/Machine/State.lean ====
section
/-! DEFINITION. The part's whole state as plain data, the model's fault and refusal, and the state after
power-on reset. -/

namespace Sys2Proof.Machine

open Sys2Proof

/-- The state of the CD-7418. INVENTORY.md names the rule of each field. EN0–EN9, IND, the two ready
outputs and the selected indicator pattern are functions of these fields (log 18). -/
structure State where
  /-- The fine counter (R88). -/
  fine : Tick
  /-- The milli counter (R89). -/
  milli : Tick
  /-- The platform state (R1). -/
  platform : PlatformState
  /-- The requested state (R4). -/
  requested : Requested
  /-- The running-plan context (R22). -/
  ctx : PlanContext
  /-- The undo stack, most recent record first (R43). -/
  undo : List UndoRecord
  /-- The emitted-level map of UP (R42). -/
  emittedUp : Vector Level 256
  /-- The emitted-level map of DN (R42). -/
  emittedDn : Vector Level 256
  /-- The pending-wake mark with its cause (R16). -/
  pendingWake : Option WakeCause
  /-- The pending-request mark (R17). -/
  pendingRequest : Bool
  /-- The request-stale mark (R12). -/
  requestStale : Bool
  /-- The last abort cause (R47). -/
  lastAbort : Option AbortCause
  /-- The wake-cause record (R18). -/
  wakeCause : Option WakeCause
  /-- The trip-cause record (R56). -/
  trip : TripRecord
  /-- The ten domain runtime records (R65). -/
  domains : Vector DomainRuntime 10
  /-- The staged copies of the eight items (R165). -/
  staged : ConfigSet
  /-- The active copies of the eight items (R165). -/
  active : ConfigSet
  /-- The apply-pending marks (R165). -/
  applyPending : Vector Bool 8
  /-- The configuration statuses (R174). -/
  applyStatus : Vector ApplyStatus 8
  /-- The wake table (R102). -/
  wakes : Vector WakeRecord 16
  /-- The capture records (R109). -/
  captures : Vector CaptureRecord 16
  /-- The level of WAKEA (R106). -/
  wakeA : Bool
  /-- The level of WAKEB (R106). -/
  wakeB : Bool
  /-- The power button (R119). -/
  button : ButtonUnit
  /-- The indicator (R126). -/
  indicator : IndicatorUnit
  /-- The signal table (R131). -/
  signals : Vector SignalEntry 64
  /-- The agent table; record k is agent k + 1 (R160). -/
  agents : Vector AgentRecord 14
  /-- The upstream port (R146). -/
  up : PortState
  /-- The downstream port (R146). -/
  dn : PortState
  /-- The seven queues (R153). -/
  queues : Queues
  /-- The notice unit (R189). -/
  notices : NoticeUnit
  /-- The restore-policy strap as sampled at power-on (R20). -/
  rpol : Strap
  /-- The commands that wait, first in, first out: the model's own field. -/
  pending : List Instr
  deriving DecidableEq, Repr

/-- Why the model stops. -/
inductive Fault where
  /-- Raised by every command whose event set off more than `Config.chainFuel` pieces of work. The spec
  gives no such stop: it is the model's bound, never met from a state with a valid active set (log 14). Safe. -/
  | chainOverrun
  deriving DecidableEq, Repr

/-- Why a command has no meaning. -/
inductive Refusal where
  /-- Raised by an arm of `exec` whose command has no meaning yet; no arm does. Safe. -/
  | notModelled (mnemonic : String)
  deriving DecidableEq, Repr

/-- The part right after power-on reset (R19, R65, R102, R109, R118 to R120, R126, R127, R143, R146, R160,
R165, R189), under the sampled levels that `Config` names (DESIGN CHOICE, log 4): the strap reads
STAY_OFF, the inputs read low, the button is released. D0, pinned with no parent, is RISING (R82). -/
def State.reset : State :=
  { fine := 0,
    milli := 0,
    platform := .softOff,
    requested := .run,
    ctx := releasedContext,
    undo := [],
    emittedUp := Vector.replicate 256 .deasserted,
    emittedDn := Vector.replicate 256 .deasserted,
    pendingWake := none,
    pendingRequest := false,
    requestStale := false,
    lastAbort := none,
    wakeCause := none,
    trip := { first := none, secondary := 0 },
    domains := (Vector.replicate 10 (resetDomain Config.resetPowerGood)).set 0
      { resetDomain Config.resetPowerGood with state := .rising },
    staged := romSet,
    active := romSet,
    applyPending := Vector.replicate 8 false,
    applyStatus := Vector.replicate 8 .none,
    wakes := romWakes,
    captures := Vector.replicate 16 clearCapture,
    wakeA := Config.resetWakeLevel,
    wakeB := Config.resetWakeLevel,
    button := resetButton Config.resetButtonLow,
    indicator := resetIndicator,
    signals := romSignals,
    agents := Vector.replicate 14 romAgent,
    up := resetPort,
    dn := resetPort,
    queues := emptyQueues,
    notices := resetNotices,
    rpol := Config.resetStrap,
    pending := [] }

end Sys2Proof.Machine
end

