-- ==== Sys2Proof/Machine/Flags.lean ====
section
/-! DEFINITION. The notice flags, their enables and the owed-notice mark (R189, R190), and saturating counts. -/

namespace Sys2Proof.Machine

open Sys2Proof

/-- A count raised by `n` that stops at its ceiling (00_scope.md, Numbers). -/
def satAdd (ceiling count n : Nat) : Nat := min (count + n) ceiling

/-- R189: the bit of a notice flag. -/
def Notice.bit : Notice → Nat
  | .stateChanged => 0
  | .domainChanged => 1
  | .entryAborted => 2
  | .tripped => 3
  | .wakeCaptured => 4
  | .captureOverwrite => 5
  | .pinnedHit => 6
  | .strayPower => 7
  | .agentAbsent => 8
  | .linkError => 9
  | .applyDone => 10
  | .requestRefused => 11
  | .rampOutOfWindow => 12
  | .stepFailed => 13
  | .txDiscard => 14

/-- The mask that selects one notice flag. -/
def Notice.mask (n : Notice) : BitVec 15 := BitVec.ofNat 15 (2 ^ n.bit)

/-- R189, R190: a flag is set. A NOTE becomes owed when the flag was clear and its enable is on. -/
def NoticeUnit.raise (u : NoticeUnit) (n : Notice) : NoticeUnit :=
  { u with
    flags := u.flags ||| n.mask,
    owed := u.owed || (!u.flags.getLsbD n.bit && u.enables.getLsbD n.bit) }

/-- R186: CLEAR_NOTICES clears the flags its mask selects and leaves the owed mark (R190). -/
def NoticeUnit.clear (u : NoticeUnit) (m : BitVec 15) : NoticeUnit :=
  { u with flags := u.flags &&& ~~~m }

/-- R186: SET_NOTICE_ENABLE sets the fifteen enables to its mask. -/
def NoticeUnit.setEnables (u : NoticeUnit) (m : BitVec 15) : NoticeUnit :=
  { u with enables := m }

/-- A block raises a notice flag at the notice unit. -/
def State.notify (s : State) (n : Notice) : State :=
  { s with notices := s.notices.raise n }

/-- A notice flag is raised when the condition holds. -/
def State.notifyIf (s : State) (c : Bool) (n : Notice) : State :=
  if c then s.notify n else s

end Sys2Proof.Machine
end

