-- ==== Sys2Proof/Machine/Ops.lean ====
section
/-! DEFINITION. The named operations over the registers of State: counters, domain records, ports and
queues, the emitted-level map, the platform state with its indicator, and the work one event sets off. -/

namespace Sys2Proof.Machine

open Sys2Proof

/-! ## Time (R88 to R90) -/

/-- The present value of a counter. -/
def State.now (s : State) : Clock → Tick
  | .fine => s.fine
  | .milli => s.milli

/-- R90: the elapsed time since a recorded reading, modulo 65,536. -/
def elapsed (now start : Tick) : Nat := (now - start).toNat

/-- R90: a wait with this start and limit has run out. -/
def expired (now start : Tick) (limit : Nat) : Bool := limit ≤ elapsed now start

/-! ## Domains (R63 to R66) -/

/-- The runtime record of a domain. -/
def State.dom (s : State) (d : DomainId) : DomainRuntime := s.domains.get d

/-- The active configuration record of a domain. -/
def State.cfg (s : State) (d : DomainId) : DomainConfig := s.active.domains.get d

/-- Replaces the runtime record of a domain. -/
def State.setDom (s : State) (d : DomainId) (r : DomainRuntime) : State :=
  { s with domains := s.domains.set d.val r d.isLt }

/-- R66: RISING and ON are the states with the enable high. -/
def DomainState.enabled : DomainState → Bool
  | .rising | .on => true
  | .off | .falling | .fault => false

/-- R66: RISING, ON and FALLING are active: they hold their parent up. -/
def DomainState.active : DomainState → Bool
  | .rising | .on | .falling => true
  | .off | .fault => false

/-- R66: the enable output of a domain. -/
def State.enableOut (s : State) (d : DomainId) : Bool := (s.dom d).state.enabled

/-- R66: a domain counts as powered in state ON alone. An absent domain stays OFF (R64). -/
def State.isOn (s : State) (d : DomainId) : Bool := (s.dom d).state == .on

/-- R85: the state of a domain changes: its change flag and DOMAIN_CHANGED are set. -/
def State.changeDom (s : State) (d : DomainId) (r : DomainRuntime) : State :=
  (s.setDom d { r with change := true }).notify .domainChanged

/-- The ten domains in ascending order. -/
def allDomains : List DomainId := [0, 1, 2, 3, 4, 5, 6, 7, 8, 9]

/-! ## Ports and queues (R146, R153) -/

/-- The state of a port. -/
def State.port (s : State) : Port → PortState
  | .up => s.up
  | .dn => s.dn

/-- Replaces the state of a port. -/
def State.setPort (s : State) (p : Port) (x : PortState) : State :=
  match p with
  | .up => { s with up := x }
  | .dn => { s with dn := x }

/-- R146: the ready output is asserted exactly when the port is UP and its receive head is empty. -/
def State.readyOut (s : State) (p : Port) : Bool :=
  (s.port p).linkUp && (s.port p).head.isNone

/-- The contents of a queue, oldest frame first. -/
def Queues.get (q : Queues) : QueueId → List Frame
  | .upOwn => q.upOwn
  | .upFwdSig => q.upFwdSig
  | .upRsp => q.upRsp
  | .upBulk => q.upBulk
  | .dnOwn => q.dnOwn
  | .dnFwd => q.dnFwd
  | .cfgIn => q.cfgIn

/-- Replaces the contents of a queue. -/
def Queues.put (q : Queues) (i : QueueId) (l : List Frame) : Queues :=
  match i with
  | .upOwn => { q with upOwn := l }
  | .upFwdSig => { q with upFwdSig := l }
  | .upRsp => { q with upRsp := l }
  | .upBulk => { q with upBulk := l }
  | .dnOwn => { q with dnOwn := l }
  | .dnFwd => { q with dnFwd := l }
  | .cfgIn => { q with cfgIn := l }

/-- The contents of a queue of the state. -/
def State.queue (s : State) (i : QueueId) : List Frame := s.queues.get i

/-- R153: a queue has a free place. -/
def State.hasPlace (s : State) (i : QueueId) : Bool := (s.queue i).length < capacity i

/-- Replaces the contents of a queue of the state. -/
def State.setQueue (s : State) (i : QueueId) (l : List Frame) : State :=
  { s with queues := s.queues.put i l }

/-- R154: a frame joins the tail of its queue if a place is free; a full queue takes nothing. -/
def State.enqueue (s : State) (i : QueueId) (f : Frame) : State :=
  if s.hasPlace i then s.setQueue i (s.queue i ++ [f]) else s

/-- The port's own queue (R32): UP-OWN or DN-OWN. -/
def ownQueue : Port → QueueId
  | .up => .upOwn
  | .dn => .dnOwn

/-- R155, R156: a port's transmit queues in the order its transmitter serves them. -/
def txQueues : Port → List QueueId
  | .up => [.upOwn, .upFwdSig, .upRsp, .upBulk]
  | .dn => [.dnOwn, .dnFwd]

/-- R149: a malformed or overrun frame counts in the error counter and sets LINK_ERROR. -/
def State.linkError (s : State) (p : Port) : State :=
  (s.setPort p { s.port p with errors := satAdd wordCeiling (s.port p).errors 1 }).notify .linkError

/-- R154: `n` frames are discarded at a port: the discard counter counts them and TX_DISCARD is set. -/
def State.discard (s : State) (p : Port) (n : Nat) : State :=
  (s.setPort p { s.port p with discards := satAdd wordCeiling (s.port p).discards n }).notify .txDiscard

/-! ## The emitted-level map (R42) -/

/-- The level the sequencer last emitted for a port and signal. -/
def State.emitted (s : State) (p : Port) (sig : Byte) : Level :=
  match p with
  | .up => s.emittedUp.get sig.toFin
  | .dn => s.emittedDn.get sig.toFin

/-- Writes the emitted-level map. -/
def State.setEmitted (s : State) (p : Port) (sig : Byte) (l : Level) : State :=
  match p with
  | .up => { s with emittedUp := s.emittedUp.set sig.toNat l sig.isLt }
  | .dn => { s with emittedDn := s.emittedDn.set sig.toNat l sig.isLt }

/-! ## Platform state and indicator (R1, R127, R130) -/

/-- R127: the pattern the platform state selects. -/
def patternOf : PlatformState → Fin 4
  | .suspended => 1
  | .hibernated | .softOff => 2
  | .tripped => 3
  | .run | .checking | .parked | .committing | .waking | .returning | .tripping => 0

/-- R130: a selection change restarts the phase with a lead-in, and the pattern left takes its buffered copy. -/
def IndicatorUnit.select (u : IndicatorUnit) (old : Fin 4) : IndicatorUnit :=
  { u with working := u.working.set old.val (u.buffered.get old) old.isLt, phase := 0, leadIn := true }

/-- R1, R127: the platform state changes: STATE_CHANGED is set and the indicator tests its selection. -/
def State.enterPlatform (s : State) (p : PlatformState) : State :=
  if p = s.platform then s
  else
    let ind := if patternOf p = patternOf s.platform then s.indicator else s.indicator.select (patternOf s.platform)
    { s with platform := p, indicator := ind }.notify .stateChanged

/-- R1: a plan is running exactly in these six states. -/
def PlatformState.planRunning : PlatformState → Bool
  | .checking | .parked | .committing | .waking | .returning | .tripping => true
  | .run | .suspended | .hibernated | .softOff | .tripped => false

/-- The rest state of a low-power state, which is the target of its entry plan (Table 1-2). -/
def LowState.rest : LowState → PlatformState
  | .suspend => .suspended
  | .hibernate => .hibernated
  | .off => .softOff

/-! ## The work of one event -/

/-- What the end of an event must know of the state the event was taken in (R182, R164, R191). -/
structure Before where
  /-- A NOTE was owed. -/
  owed : Bool
  /-- UP-RSP was full. -/
  rspFull : Bool
  /-- DN-OWN was full. -/
  ownFull : Bool
  deriving DecidableEq, Repr

/-- What the end of an event taken in this state must know of it. -/
def State.before (s : State) : Before :=
  { owed := s.notices.owed, rspFull := !s.hasPlace .upRsp, ownFull := !s.hasPlace .dnOwn }

/-- What becomes of a frame at a receive head (R137, R151, R152). -/
inductive Fate where
  /-- Consumed: nothing is placed, nothing is counted. -/
  | consume
  /-- Consumed for an absent or unpowered agent: a miss is counted (R159). -/
  | miss (a : BitVec 4)
  /-- Answered for an absent or unpowered agent with NO_AGENT in UP-RSP (R159). -/
  | noAgent (a : BitVec 4)
  /-- Discarded at the DOWN upstream port (R154). -/
  | discardUp
  /-- Placed, as given, in a queue. -/
  | place (q : QueueId) (f : Frame)
  /-- Answered DENIED in DN-OWN (R164). -/
  | deny
  deriving DecidableEq, Repr

/-- A piece of work that an event sets off. An event is a list of these, done one after another; the work
one piece sets off is done before the rest of the list (R24, R79, R141). -/
inductive Work where
  /-- The plan step at this index starts; past the last step the plan completes (R24). -/
  | start (i : Nat)
  /-- The rollback takes the next record off the undo stack (R49). -/
  | rollback
  /-- The domain controller reports a domain reaching ON (R79). -/
  | onReport (d : DomainId)
  /-- The domain controller reports a domain reaching OFF (R79). -/
  | offReport (d : DomainId)
  /-- The domain controller reports a FAULT entry, marked critical or not (R79). -/
  | faultReport (d : DomainId) (critical : Bool)
  /-- The domain controller reports an overrange expiry (R75). -/
  | overrangeReport (d : DomainId)
  /-- A domain's hold-off has become idle (R74). -/
  | holdOver (d : DomainId)
  /-- A trip cause reaches the sequencer (R54). -/
  | tripCause (c : TripCause)
  /-- A wake source arrives (R110, R111). -/
  | arrival (n : SourceId)
  /-- A tracked level of this key was written; a GUARD step may watch it (R140). -/
  | levelReport (p : Port) (agent : BitVec 4) (sig : Byte) (l : Level)
  /-- REQUEST effect (R4). -/
  | requestEffect
  /-- TRIP effect (R54). -/
  | tripEffect (l : Level)
  /-- VETO effect (R14). -/
  | vetoEffect (l : Level)
  /-- RELEASE effect (R35). -/
  | releaseEffect (l : Level)
  /-- WAKE effect (R107). -/
  | wakeEffect (n : SourceId) (l : Level)
  /-- VETO effect and WAKE effect of one entry, reported in that order (R107, R141). -/
  | vetoWakeEffect (n : SourceId) (l : Level)
  /-- A taken frame's fate is carried out (R142, R151, R152, R159). -/
  | carry (fate : Fate) (f : Frame)
  /-- The frame at a receive head is judged (R150). -/
  | judge (p : Port)
  /-- A port has gone DOWN: the waits on its queues end (R161). -/
  | portDown (p : Port)
  /-- The configuration unit takes the head of its input queue if it may (R182). -/
  | serve
  /-- The event ends: transmitters choose, held heads are judged again, the owed NOTE is queued (R155, R157,
  R191); `b` is what stood before the event. -/
  | settle (b : Before)
  deriving DecidableEq, Repr

/-- A state together with the work its change has set off. -/
abbrev Act := State × List Work

end Sys2Proof.Machine
end

