-- ==== Sys2Proof/Machine/Ramp.lean ====
section
/-! DEFINITION. Ramp accounting: classification, learned averages and budgets, hold-off lengths (chapter 5). -/

namespace Sys2Proof.Machine

open Sys2Proof

/-- The quotient rounded up. -/
def ceilDiv (a b : Nat) : Nat := (a + (b - 1)) / b

/-- R97: the class of a captured value against its window. -/
def classify (value lo hi : Nat) (overrange : Bool) : RampClass :=
  if overrange then .slow
  else if value < lo then .fast
  else if value ≤ hi then .ok
  else .slow

/-- R98: an avg4 after an OK capture. -/
def updateAvg (avg : Option Nat) (value : Nat) : Nat :=
  match avg with
  | none => 4 * value
  | some a => a - a / 4 + value

/-- R98: an avg4 after a capture of any class. -/
def learn (avg : Option Nat) (cls : RampClass) (value : Nat) : Option Nat :=
  if cls = .ok then some (updateAvg avg value) else avg

/-- R100: the learned budget of an avg4 in its window. -/
def learnedBudget (avg : Option Nat) (lo hi : Nat) : Nat :=
  match avg with
  | none => hi
  | some a => min (max (ceilDiv (3 * a) 8) lo) hi

/-- R101: the length of a hold-off. -/
def holdOffLength (holdMin : Nat) (fallAvg : Option Nat) : Nat :=
  match fallAvg with
  | none => holdMin
  | some a => min (max holdMin (ceilDiv (3 * a) 16)) holdOffCap

/-- R94: the value of a ramp that ends now. -/
def DomainRuntime.rampValue (r : DomainRuntime) (now : Tick) : Nat :=
  if r.overrange then overrangeLimit else elapsed now r.rampStart

/-- R86: a rise of this class counts. -/
def DomainStats.countRise (t : DomainStats) : RampClass → DomainStats
  | .ok => { t with riseOk := satAdd wordCeiling t.riseOk 1 }
  | .fast => { t with riseFast := satAdd wordCeiling t.riseFast 1 }
  | .slow => { t with riseSlow := satAdd wordCeiling t.riseSlow 1 }

/-- R86: a fall of this class counts. -/
def DomainStats.countFall (t : DomainStats) : RampClass → DomainStats
  | .ok => { t with fallOk := satAdd wordCeiling t.fallOk 1 }
  | .fast => { t with fallFast := satAdd wordCeiling t.fallFast 1 }
  | .slow => { t with fallSlow := satAdd wordCeiling t.fallSlow 1 }

/-- R86: the statistics after a counting event; they stand while counting is off. -/
def DomainRuntime.count (r : DomainRuntime) (f : DomainStats → DomainStats) : DomainRuntime :=
  if r.counting then { r with stats := f r.stats } else r

/-- The class of a rise that ends now (R97). -/
def riseClass (r : DomainRuntime) (c : DomainConfig) (now : Tick) : RampClass :=
  classify (r.rampValue now) c.riseMin c.riseMax r.overrange

/-- The class of a fall that ends now (R97). -/
def fallClass (r : DomainRuntime) (c : DomainConfig) (now : Tick) : RampClass :=
  classify (r.rampValue now) c.fallMin c.fallMax r.overrange

/-- R94: the runtime record after a rise is captured, before the domain moves to ON. -/
def DomainRuntime.captureRise (r : DomainRuntime) (c : DomainConfig) (now : Tick) : DomainRuntime :=
  let cls := riseClass r c now
  { r with
    overrange := false,
    lastRise := some ⟨r.rampValue now, cls⟩,
    riseAvg := learn r.riseAvg cls (r.rampValue now) }.count (·.countRise cls)

/-- R94: the runtime record after a fall is captured, before the domain moves to OFF. -/
def DomainRuntime.captureFall (r : DomainRuntime) (c : DomainConfig) (now : Tick) : DomainRuntime :=
  let cls := fallClass r c now
  { r with
    overrange := false,
    lastFall := some ⟨r.rampValue now, cls⟩,
    fallAvg := learn r.fallAvg cls (r.rampValue now) }.count (·.countFall cls)

/-- R100: the learned rise budget of a domain as it stands. -/
def State.riseBudget (s : State) (d : DomainId) : Nat :=
  learnedBudget (s.dom d).riseAvg (s.cfg d).riseMin (s.cfg d).riseMax

/-- R100: the learned fall budget of a domain as it stands. -/
def State.fallBudget (s : State) (d : DomainId) : Nat :=
  learnedBudget (s.dom d).fallAvg (s.cfg d).fallMin (s.cfg d).fallMax

end Sys2Proof.Machine
end

