-- ==== Sys2Proof/Machine/Domains.lean ====
section
/-! DEFINITION. The domain controller: enable and disable requests, power-good edges, faults and their
cascade, pinned domains, the final sweep (chapter 4, R59). -/

namespace Sys2Proof.Machine

open Sys2Proof

/-! ## Dependencies (R64, R67, R69) -/

/-- R67: the parent of a domain is none or ON. -/
def State.parentReady (s : State) (d : DomainId) : Bool :=
  match (s.cfg d).parent with
  | none => true
  | some p => s.isOn p

/-- R64: `c` is a child of `d`: a present domain whose parent is `d`. -/
def State.isChild (s : State) (d c : DomainId) : Bool :=
  (s.cfg c).present && (s.cfg c).parent == some d

/-- R69: a child of the domain is RISING, ON or FALLING. -/
def State.childActive (s : State) (d : DomainId) : Bool :=
  allDomains.any fun c => s.isChild d c && (s.dom c).state.active

/-- R64: the domain is a descendant of `root` along at most `n` parent fields. -/
def State.descends (s : State) (root : DomainId) : Nat → DomainId → Bool
  | 0, _ => false
  | n + 1, d =>
    (s.cfg d).present &&
      match (s.cfg d).parent with
      | none => false
      | some p => p == root || s.descends root n p

/-- R3: some present pinned domain is RISING. -/
def State.pinnedRising (s : State) : Bool :=
  allDomains.any fun d => (s.cfg d).present && (s.cfg d).pinned && (s.dom d).state == .rising

/-! ## Entering states -/

/-- R73, R76, R101: the hold-off starts, with the length computed now. A length of 0 expires in this event (R74). -/
def State.startHold (s : State) (d : DomainId) : Act :=
  let len := holdOffLength (s.cfg d).holdMin (s.dom d).fallAvg
  if len = 0 then (s.setDom d { s.dom d with hold := none }, [.holdOver d])
  else (s.setDom d { s.dom d with hold := some ⟨s.fine, len⟩ }, [])

/-- R67, R82, R93: the record of a domain whose enable goes high now with power-good low. -/
def DomainRuntime.rise (r : DomainRuntime) (now : Tick) : DomainRuntime :=
  { r with state := .rising, overrange := false, stray := false, rampStart := now }

/-- R69, R93: the record of a domain that enters FALLING now. -/
def DomainRuntime.fall (r : DomainRuntime) (now : Tick) : DomainRuntime :=
  { r with state := .falling, overrange := false, rampStart := now }

/-- R82: a present pinned domain in OFF or FAULT, with its hold-off idle, its power-good low and its parent
none or ON, is enabled by the domain controller. -/
def State.pinnedDue (s : State) (d : DomainId) : Bool :=
  (s.cfg d).present && (s.cfg d).pinned
    && ((s.dom d).state == .off || (s.dom d).state == .fault)
    && (s.dom d).hold.isNone && !(s.dom d).pg && s.parentReady d

/-- R82: the test and the enable. -/
def State.tryPinned (s : State) (d : DomainId) : State :=
  if s.pinnedDue d then s.changeDom d ((s.dom d).rise s.fine) else s

/-- R82: the arrival of a domain at ON is a test of each pinned child. -/
def State.parentArrived (s : State) (d : DomainId) : State :=
  allDomains.foldl (fun t c => if t.isChild d c then t.tryPinned c else t) s

/-! ## Enable requests (R67, R68) -/

/-- The controller's answer to an enable request. -/
inductive EnableAnswer where
  | accepted
  | dependency
  | stillPowered
  | deferred
  deriving DecidableEq, Repr

/-- R67: how an enable request is judged. -/
def State.judgeEnable (s : State) (d : DomainId) : EnableAnswer :=
  match (s.dom d).state with
  | .rising | .on => .accepted
  | .falling => .deferred
  | .off =>
    if (s.dom d).hold.isSome then .deferred
    else if s.parentReady d then .accepted else .dependency
  | .fault =>
    if (s.dom d).pg then .stillPowered
    else if (s.dom d).hold.isSome then .deferred
    else if s.parentReady d then .accepted else .dependency

/-- R67: the acceptance of a request for an OFF or FAULT domain. With power-good already high the domain
reaches ON in the same event, without a rise sample. -/
def State.acceptEnable (s : State) (d : DomainId) : Act :=
  let r := (s.dom d).rise s.fine
  if (s.dom d).pg then ((s.changeDom d { r with state := .on }).parentArrived d, [.onReport d])
  else (s.changeDom d r, [])

/-- R67: the effect of an enable request with its answer. -/
def State.enableEffect (s : State) (d : DomainId) : EnableAnswer → Act
  | .accepted => if (s.dom d).state.enabled then (s, []) else s.acceptEnable d
  | .dependency | .stillPowered | .deferred => (s, [])

/-! ## Disable requests (R69) -/

/-- R69, R73: a domain enters OFF from this record and its hold-off starts. The arrival at OFF is reported before a
hold-off of length 0 expires (log 13), so that the wait the report ends (R30, R51) is the one that stood at the arrival. -/
def State.enterOff (s : State) (d : DomainId) (r : DomainRuntime) : Act :=
  let (s1, w) := (s.changeDom d { r with state := .off }).startHold d
  (s1, .offReport d :: w)

/-- R69, R73: an enabled domain is disabled. With power-good already low it reaches OFF in the same event,
without a fall sample. -/
def State.dropEnable (s : State) (d : DomainId) : Act :=
  let r := (s.dom d).fall s.fine
  if (s.dom d).pg then (s.changeDom d r, []) else s.enterOff d r

/-- R69, R80: a FAULT domain is disabled: OFF with power-good low, its hold-off running on; FALLING with
power-good high, its hold-off stopped. -/
def State.clearFault (s : State) (d : DomainId) : Act :=
  if (s.dom d).pg then (s.changeDom d { (s.dom d).fall s.fine with hold := none }, [])
  else (s.changeDom d { s.dom d with state := .off }, [.offReport d])

/-- R69: a disable request is refused with DEPENDENCY. -/
def State.disableRefused (s : State) (d : DomainId) : Bool :=
  !(s.cfg d).pinned && (s.dom d).state.enabled && s.childActive d

/-- R69: the effect of a disable request. -/
def State.disableEffect (s : State) (d : DomainId) : Act :=
  if (s.cfg d).pinned then (s.notify .pinnedHit, [])
  else if s.disableRefused d then (s, [])
  else
    match (s.dom d).state with
    | .rising | .on => s.dropEnable d
    | .falling | .off => (s, [])
    | .fault => s.clearFault d

/-! ## Faults and the cascade (R76 to R79) -/

/-- R76: one FAULT entry, with the hold-off it starts. -/
def State.faultEntry (s : State) (d : DomainId) (cause : FaultCause) : Act :=
  let r := { s.dom d with state := .fault, cause := some cause, overrange := false }
  let r := r.count fun t => { t with faults := satAdd wordCeiling t.faults 1 }
  (s.changeDom d r).startHold d

/-- R79: the report of a FAULT entry, critical as the active record has it. -/
def State.faultReportOf (s : State) (d : DomainId) : Work := .faultReport d (s.cfg d).critical

/-- R78: the descendants whose enable is high, in ascending order. -/
def State.cascade (s : State) (root : DomainId) : List DomainId :=
  allDomains.filter fun d => !(d == root) && s.enableOut d && s.descends root 10 d

/-- FAULT entries of a list of domains, with the work their hold-offs set off. -/
def State.faultAll (s : State) (cause : FaultCause) : List DomainId → Act
  | [] => (s, [])
  | d :: ds =>
    let (s1, w1) := s.faultEntry d cause
    let (s2, w2) := s1.faultAll cause ds
    (s2, w1 ++ w2)

/-- R76, R78, R79: a domain enters FAULT on its own cause; the cascade follows; the reports are handed
after all the entries, the root's first; zero-length hold-offs expire after them (log 13). -/
def State.faultDomain (s : State) (d : DomainId) (cause : FaultCause) : Act :=
  let victims := s.cascade d
  let (s1, w1) := s.faultEntry d cause
  let (s2, w2) := s1.faultAll .parentLost victims
  (s2, (d :: victims).map s.faultReportOf ++ w1 ++ w2)

/-- R77: the wait-expiry report of a wait that names a domain. -/
def State.waitExpiry (s : State) (d : DomainId) (forOn : Bool) : Act :=
  let s1 := s.setDom d ((s.dom d).count fun t => { t with timeouts := satAdd wordCeiling t.timeouts 1 })
  if forOn && (s.dom d).state == .rising then s1.faultDomain d .timeout else (s1, [])

/-! ## Power-good edges (R71, R72) -/

/-- R71, R81: a rising edge of a power-good input. An input already high has no rising edge (log 10). -/
def State.pgRise (s : State) (d : DomainId) : Act :=
  let r := { s.dom d with pg := true }
  if (s.dom d).pg then (s, [])
  else if !(s.cfg d).present then (s.setDom d r, [])
  else
    match r.state with
    | .rising =>
      let s1 := s.notifyIf (riseClass r (s.cfg d) s.fine ≠ .ok) .rampOutOfWindow
      ((s1.changeDom d { r.captureRise (s.cfg d) s.fine with state := .on }).parentArrived d, [.onReport d])
    | .off | .fault => ((s.setDom d { r with stray := true }).notify .strayPower, [])
    | .on | .falling => (s.setDom d r, [])

/-- R72, R73: a falling edge of a power-good input. An input already low has no falling edge (log 10). -/
def State.pgFall (s : State) (d : DomainId) : Act :=
  let r := { s.dom d with pg := false }
  if !(s.dom d).pg then (s, [])
  else if !(s.cfg d).present then (s.setDom d r, [])
  else
    match r.state with
    | .on => (s.setDom d r).faultDomain d .pgLost
    | .falling =>
      let s1 := s.notifyIf (fallClass r (s.cfg d) s.fine ≠ .ok) .rampOutOfWindow
      s1.enterOff d (r.captureFall (s.cfg d) s.fine)
    | .off | .fault => ((s.setDom d r).tryPinned d, [])
    | .rising => (s.setDom d r, [])

/-! ## Expiries of the controller (R74, R75) -/

/-- R74: a running hold-off has run out. -/
def State.holdDue (s : State) (d : DomainId) : Bool :=
  match (s.dom d).hold with
  | none => false
  | some h => expired s.fine h.start h.length

/-- R74: the hold-off becomes idle; then a deferred request is judged and R82 applied (`Work.holdOver`). -/
def State.holdExpiry (s : State) (d : DomainId) : Act :=
  if s.holdDue d then (s.setDom d { s.dom d with hold := none }, [.holdOver d]) else (s, [])

/-- R75, R96: a ramp under way reaches 65,535 fine ticks; it comes once per ramp. -/
def State.overrangeDue (s : State) (d : DomainId) : Bool :=
  ((s.dom d).state == .rising || (s.dom d).state == .falling)
    && !(s.dom d).overrange && expired s.fine (s.dom d).rampStart overrangeLimit

/-- R75: the overrange mark is set and the expiry is reported. -/
def State.overrangeExpiry (s : State) (d : DomainId) : Act :=
  if s.overrangeDue d then (s.setDom d { s.dom d with overrange := true }, [.overrangeReport d]) else (s, [])

/-! ## The final sweep (R59) -/

/-- R59: the sweep acts on a present domain that is not pinned and is RISING, ON or FAULT. -/
def State.sweeps (s : State) (d : DomainId) : Bool :=
  (s.cfg d).present && !(s.cfg d).pinned && ((s.dom d).state.enabled || (s.dom d).state == .fault)

/-- R59, R95: the sweep of a RISING or ON domain. With power-good high the fall begins now; with power-good low
the domain is OFF at once, and no fall begins: its start tick stands. -/
def State.sweepEnable (s : State) (d : DomainId) : Act :=
  if (s.dom d).pg then (s.changeDom d ((s.dom d).fall s.fine), [])
  else s.enterOff d { s.dom d with overrange := false }

/-- R59: what the sweep does to one domain. -/
def State.sweepDomain (s : State) (d : DomainId) : Act :=
  if !s.sweeps d then (s, [])
  else if (s.dom d).state == .fault then s.clearFault d
  else s.sweepEnable d

/-- R59: the sweep of a list of domains in one event. -/
def State.sweepAll (s : State) : List DomainId → Act
  | [] => (s, [])
  | d :: ds =>
    let (s1, w1) := s.sweepDomain d
    let (s2, w2) := s1.sweepAll ds
    (s2, w1 ++ w2)

/-- R59: the final sweep. -/
def State.finalSweep (s : State) : Act := s.sweepAll allDomains

end Sys2Proof.Machine
end

