-- ==== Sys2Proof/Machine/Operands.lean ====
section
/-! DEFINITION. The operand forms: the codes of Table 11-4, the field layouts of Table 11-3, the selection of
fields by a mask (R184), and every record as a list of field codes, in both directions. -/

namespace Sys2Proof.Machine

open Sys2Proof

/-! ## Codes (Table 11-4) -/

/-- yes/no, set/clear, on/off are coded 1/0. -/
def boolCode (b : Bool) : Nat := if b then 1 else 0

def boolOf : Nat → Option Bool
  | 0 => some false
  | 1 => some true
  | _ => none

def PlatformState.code : PlatformState → Nat
  | .run => 0
  | .checking => 1
  | .parked => 2
  | .committing => 3
  | .suspended => 4
  | .hibernated => 5
  | .softOff => 6
  | .waking => 7
  | .returning => 8
  | .tripping => 9
  | .tripped => 10

def Requested.code : Requested → Nat
  | .run => 0
  | .low .suspend => 1
  | .low .hibernate => 2
  | .low .off => 3

def StepKind.code : StepKind → Nat
  | .enable => 0
  | .disable => 1
  | .awaitGood => 2
  | .awaitLow => 3
  | .delay => 4
  | .emit => 5
  | .sync => 6
  | .guard => 7
  | .park => 8
  | .commit => 9
  | .retry => 10

def stepKindOf : Nat → Option StepKind
  | 0 => some .enable
  | 1 => some .disable
  | 2 => some .awaitGood
  | 3 => some .awaitLow
  | 4 => some .delay
  | 5 => some .emit
  | 6 => some .sync
  | 7 => some .guard
  | 8 => some .park
  | 9 => some .commit
  | 10 => some .retry
  | _ => none

def StepUnit.code : StepUnit → Nat
  | .fine => 0
  | .milli => 1
  | .learned => 2

def stepUnitOf : Nat → Option StepUnit
  | 0 => some .fine
  | 1 => some .milli
  | 2 => some .learned
  | _ => none

def FailAction.code : FailAction → Nat
  | .abort => 0
  | .trip => 1
  | .cont => 2

def failActionOf : Nat → Option FailAction
  | 0 => some .abort
  | 1 => some .trip
  | 2 => some .cont
  | _ => none

def domainIdOf (n : Nat) : Option DomainId := if h : n < 10 then some ⟨n, h⟩ else none

def DomOrPort.code : DomOrPort → Nat
  | .domain d => d.val
  | .port .up => 10
  | .port .dn => 11

def domOrPortOf (n : Nat) : Option DomOrPort :=
  if h : n < 10 then some (.domain ⟨n, h⟩)
  else if n = 10 then some (.port .up)
  else if n = 11 then some (.port .dn)
  else none

/-- Parent, needs-domain and powering domain: 0–9, or FFh for none. -/
def optDomainCode : Option DomainId → Nat
  | none => 255
  | some d => d.val

def optDomainOf (n : Nat) : Option (Option DomainId) :=
  if h : n < 10 then some (some ⟨n, h⟩)
  else if n = 255 then some none
  else none

def Level.code : Level → Nat
  | .deasserted => 0
  | .asserted => 1

def levelOf : Nat → Option Level
  | 0 => some .deasserted
  | 1 => some .asserted
  | _ => none

def Tracked.code : Tracked → Nat
  | .deasserted => 0
  | .asserted => 1
  | .unknown => 2

/-- A tracked level written from a frame's level (R140). -/
def Level.tracked : Level → Tracked
  | .deasserted => .deasserted
  | .asserted => .asserted

def DomainState.code : DomainState → Nat
  | .off => 0
  | .rising => 1
  | .on => 2
  | .falling => 3
  | .fault => 4

def faultCauseCode : Option FaultCause → Nat
  | none => 0
  | some .timeout => 1
  | some .pgLost => 2
  | some .parentLost => 3

def RampClass.code : RampClass → Nat
  | .fast => 1
  | .ok => 2
  | .slow => 3

/-- avg4: FFFFFFh is NO_SAMPLE. -/
def avgCode : Option Nat → Nat
  | none => 0xFFFFFF
  | some a => a

def SigAction.code : SigAction → Nat
  | .pass => 0
  | .drop => 1
  | .map => 2

def sigActionOf : Nat → Option SigAction
  | 0 => some .pass
  | 1 => some .drop
  | 2 => some .map
  | _ => none

def portCode : Port → Nat
  | .up => 0
  | .dn => 1

def portOf : Nat → Option Port
  | 0 => some .up
  | 1 => some .dn
  | _ => none

/-- WAKE: 0 clear, 1–15 the source. -/
def wakeFlagCode : Option SourceId → Nat
  | none => 0
  | some n => n.val

def wakeFlagOf (n : Nat) : Option (Option SourceId) :=
  if n = 0 then some none else if h : n < 16 then some (some ⟨n, h⟩) else none

/-- REQUEST: 0 clear, 1 SUSPEND, 2 HIBERNATE, 3 OFF. -/
def requestFlagCode : Option LowState → Nat
  | none => 0
  | some .suspend => 1
  | some .hibernate => 2
  | some .off => 3

def requestFlagOf : Nat → Option (Option LowState)
  | 0 => some none
  | 1 => some (some .suspend)
  | 2 => some (some .hibernate)
  | 3 => some (some .off)
  | _ => none

def Binding.code : Binding → Nat
  | .signal => 0
  | .lineA => 1
  | .lineB => 2
  | .button => 3

def bindingOf : Nat → Option Binding
  | 0 => some .signal
  | 1 => some .lineA
  | 2 => some .lineB
  | 3 => some .button
  | _ => none

def CaptureEffect.code : CaptureEffect → Nat
  | .none => 0
  | .woke => 1
  | .aborted => 2
  | .pended => 3

def IndMode.code : IndMode → Nat
  | .off => 0
  | .on => 1
  | .blink => 2

def indModeOf : Nat → Option IndMode
  | 0 => some .off
  | 1 => some .on
  | 2 => some .blink
  | _ => none

def ApplyStatus.code : ApplyStatus → Nat
  | .none => 0
  | .success => 1
  | .inProgress => 2
  | .rejEmpty => 3
  | .rejShape => 4
  | .rejReference => 5
  | .rejDomainGraph => 6
  | .rejLive => 7

def Portion.code : Portion → Nat
  | .none => 0
  | .check => 1
  | .commit => 2
  | .exit => 3
  | .trip => 4
  | .rollback => 5

/-- The last abort cause and its detail: the wake source or the step index, else 0 (Table 11-5). -/
def abortCode : Option AbortCause → Nat × Nat
  | none => (0, 0)
  | some .cancel => (1, 0)
  | some .veto => (2, 0)
  | some (.wake n) => (3, n.val)
  | some (.step i) => (4, i)
  | some .parkLimit => (5, 0)

/-- A trip cause and its detail: the domain or the step index, else 0 (Table 11-5). -/
def tripCode : Option TripCause → Nat × Nat
  | none => (0, 0)
  | some (.criticalFault d) => (1, d.val)
  | some .thermal => (2, 0)
  | some .rollbackFailed => (3, 0)
  | some (.exitFailed i) => (4, i)
  | some (.entryFailed i) => (5, i)
  | some (.retryExhausted i) => (6, i)
  | some .override => (7, 0)

/-- Wake cause: 00h none, 10h–1Fh W0–W15, 20h HUB, 21h POWER_RESTORE. -/
def wakeCauseCode : Option WakeCause → Nat
  | none => 0
  | some (.source n) => 0x10 + n.val
  | some .hub => 0x20
  | some .powerRestore => 0x21

/-- Table 11-2. -/
def CfgStatus.code : CfgStatus → Nat
  | .ok => 0
  | .badTable => 1
  | .badIndex => 2
  | .badValue => 3
  | .duplicate => 4
  | .readOnly => 5
  | .busy => 6
  | .denied => 7

/-! ## Bytes of a field (R184: most significant byte first) -/

/-- A field's value as `n` bytes, most significant first. -/
def fieldBytes : Nat → Nat → List Byte
  | 0, _ => []
  | n + 1, v => BitVec.ofNat 8 (v / 256 ^ n) :: fieldBytes n v

/-- The value of a field's bytes. -/
def bytesValue (bs : List Byte) : Nat := bs.foldl (fun acc b => acc * 256 + b.toNat) 0

/-! ## Field layouts (Table 11-3) -/

/-- A field of a record: its size in bytes, and whether a write may select it. -/
structure FieldSpec where
  size : Nat
  writable : Bool
  deriving DecidableEq, Repr

/-- A field that may be written. -/
def rw (n : Nat) : FieldSpec := ⟨n, true⟩

/-- A field marked read-only. -/
def ro (n : Nat) : FieldSpec := ⟨n, false⟩

/-- Table 11-3: the fields of a table's record, in field order; none for an unknown table. Table 14 is read
through Table 11-5 and has no writable field. -/
def tableLayout : Nat → Option (List FieldSpec)
  | 0 => some [rw 2]
  | 1 | 3 => some [rw 1]
  | 2 | 4 => some [rw 1, rw 1, rw 1, rw 1, rw 1, rw 1, rw 1, rw 2, rw 1, rw 1, rw 1]
  | 5 | 6 => some [rw 1, rw 1, rw 1, rw 1, rw 2, rw 2, rw 2, rw 2, rw 2]
  | 7 => some [ro 1, ro 1, ro 1, ro 1, ro 2, ro 1, ro 2, ro 1, ro 3, ro 3, ro 1, ro 1, ro 1]
  | 8 => some [rw 1, ro 2, ro 2, ro 2, ro 2, ro 2, ro 2, ro 2, ro 2]
  | 9 => some [rw 1, rw 1, rw 1, rw 1, rw 1, rw 1, rw 1, rw 1, rw 1, rw 1, rw 1, rw 1, ro 1]
  | 10 => some [rw 1, rw 1, rw 1, rw 1, rw 1]
  | 11 => some [ro 1, ro 1, ro 1, ro 2, ro 1, ro 1]
  | 12 => some [rw 1, rw 1, rw 1]
  | 13 => some [rw 1, rw 2, rw 2, rw 1, ro 1, ro 2, ro 2, ro 1, rw 1, rw 2]
  | 14 => some []
  | _ => none

/-- Table 11-3: the first index and the number of indexes of a table. -/
def tableRange : Nat → Nat × Nat
  | 0 => (1, 7)
  | 1 | 3 => (0, 7)
  | 2 | 4 => (0, 224)
  | 5 | 6 | 7 | 8 => (0, 10)
  | 9 => (0, 64)
  | 10 | 11 => (0, 16)
  | 12 => (1, 14)
  | 13 => (0, 4)
  | 14 => (0, 1)
  | _ => (0, 0)

/-- R183: the index is one the table has. -/
def indexInRange (table index : Nat) : Bool :=
  (tableRange table).1 ≤ index && index < (tableRange table).1 + (tableRange table).2

/-- R183: the tables a CFG_WR may not write. -/
def readOnlyTable (table : Nat) : Bool :=
  table == 3 || table == 4 || table == 6 || table == 7 || table == 14

/-- R184: the fields a mask selects, from field `k` on, with the values taken from the bytes in field
order; none when the mask selects a field the record has not, or one marked read-only, or when the bytes
are not exactly those of the selected fields. -/
def selectFields (mask : BitVec 16) : Nat → List FieldSpec → List Byte → Option (List (Option Nat))
  | k, [], bytes => if mask.toNat / 2 ^ k = 0 ∧ bytes = [] then some [] else none
  | k, f :: fs, bytes =>
    if mask.getLsbD k then
      if f.writable ∧ f.size ≤ bytes.length then
        (selectFields mask (k + 1) fs (bytes.drop f.size)).map (some (bytesValue (bytes.take f.size)) :: ·)
      else none
    else (selectFields mask (k + 1) fs bytes).map (none :: ·)

/-- R166, R132: the record as it would stand: selected fields take the written values, the others keep theirs. -/
def mergeFields : List Nat → List (Option Nat) → List Nat
  | v :: vs, w :: ws => w.getD v :: mergeFields vs ws
  | vs, _ => vs

/-- A record's fields as the bytes of a read (R185). -/
def recordBytes (layout : List FieldSpec) (fields : List Nat) : List Byte :=
  (layout.zip fields).flatMap fun (f, v) => fieldBytes f.size v

/-! ## Records as field codes -/

/-- A plan step in field order (table 2). -/
def Step.fields (t : Step) : List Nat :=
  [t.kind.code, t.unit.code, t.action.code, t.place.code, t.level.code, t.signal.toNat, t.agent.toNat,
   t.budget, t.retryTarget, t.retryCount, t.label.toNat]

/-- R166: the field tests of a plan step record. -/
def Step.wf (t : Step) : Bool :=
  t.agent.toNat ≤ 14 && t.budget ≤ 65535 && (t.unit != .fine || t.budget ≤ 60000)
    && t.retryTarget ≤ 31 && 1 ≤ t.retryCount && t.retryCount ≤ 15

/-- A plan step from its field codes, when every code is one (R166). -/
def stepOf : List Nat → Option Step
  | [k, u, a, p, l, sg, ag, b, rt, rc, lb] => do
    let t : Step :=
      { kind := ← stepKindOf k, unit := ← stepUnitOf u, action := ← failActionOf a, place := ← domOrPortOf p,
        level := ← levelOf l, signal := BitVec.ofNat 8 sg,
        agent := ← (if ag < 16 then some (BitVec.ofNat 4 ag) else none),
        budget := b, retryTarget := rt, retryCount := rc, label := BitVec.ofNat 8 lb }
    if t.wf then some t else none
  | _ => none

/-- A domain configuration record in field order (table 5). -/
def DomainConfig.fields (c : DomainConfig) : List Nat :=
  [boolCode c.present, optDomainCode c.parent, boolCode c.pinned, boolCode c.critical, c.riseMin, c.riseMax,
   c.fallMin, c.fallMax, c.holdMin]

/-- R166: the field tests of a domain configuration record. -/
def DomainConfig.wf (c : DomainConfig) : Bool :=
  c.riseMin ≤ 60000 && c.riseMax ≤ 60000 && c.fallMin ≤ 60000 && c.fallMax ≤ 60000 && c.holdMin ≤ 60000
    && c.riseMin ≤ c.riseMax && c.fallMin ≤ c.fallMax

/-- A domain configuration record from its field codes (R166). -/
def domainConfigOf : List Nat → Option DomainConfig
  | [p, pa, pi, cr, a, b, c, d, h] => do
    let r : DomainConfig :=
      { present := ← boolOf p, parent := ← optDomainOf pa, pinned := ← boolOf pi, critical := ← boolOf cr,
        riseMin := a, riseMax := b, fallMin := c, fallMax := d, holdMin := h }
    if r.wf then some r else none
  | _ => none

/-- The last rise or fall: its value and class codes; 0 and 0 while it holds none (R65). -/
def rampFields : Option Ramp → List Nat
  | none => [0, 0]
  | some r => [r.value, r.cls.code]

/-- The domain status record in field order (table 7, R85). -/
def DomainRuntime.fields (r : DomainRuntime) : List Nat :=
  [r.state.code, faultCauseCode r.cause, boolCode r.pg, boolCode r.overrange]
    ++ rampFields r.lastRise ++ rampFields r.lastFall
    ++ [avgCode r.riseAvg, avgCode r.fallAvg, boolCode r.hold.isSome, boolCode r.stray, boolCode r.change]

/-- The domain statistics record in field order (table 8). -/
def DomainRuntime.statFields (r : DomainRuntime) : List Nat :=
  [boolCode r.counting, r.stats.riseOk, r.stats.riseFast, r.stats.riseSlow, r.stats.fallOk, r.stats.fallFast,
   r.stats.fallSlow, r.stats.timeouts, r.stats.faults]

/-- A signal-table entry in field order (table 9). -/
def SignalEntry.fields (e : SignalEntry) : List Nat :=
  [boolCode e.inUse, portCode e.port, e.agent.toNat, e.signal.toNat, e.action.code, e.newNumber.toNat,
   boolCode e.track, wakeFlagCode e.wake, requestFlagCode e.request, boolCode e.veto, boolCode e.trip,
   boolCode e.release, e.level.code]

/-- R132: the tests of a signal-table entry, in use or not. -/
def SignalEntry.wf (e : SignalEntry) : Bool :=
  e.agent.toNat ≤ 14
    && ((e.request.isNone && !e.release && !e.trip) || e.port == .up)
    && (e.wake.isNone || e.port == .dn)
    && ((e.request.isNone && !e.veto && !e.trip && !e.release) || e.track)

/-- A signal-table entry from its first twelve field codes, with the level it is to hold (R132). -/
def signalEntryOf (level : Tracked) : List Nat → Option SignalEntry
  | [u, p, ag, sg, ac, nn, tr, wk, rq, ve, ti, re, _] => do
    let e : SignalEntry :=
      { inUse := ← boolOf u, port := ← portOf p,
        agent := ← (if ag < 16 then some (BitVec.ofNat 4 ag) else none),
        signal := BitVec.ofNat 8 sg, action := ← sigActionOf ac, newNumber := BitVec.ofNat 8 nn,
        track := ← boolOf tr, wake := ← wakeFlagOf wk, request := ← requestFlagOf rq, veto := ← boolOf ve,
        trip := ← boolOf ti, release := ← boolOf re, level := level }
    if e.wf then some e else none
  | _ => none

/-- A wake-table record in field order (table 10). -/
def WakeRecord.fields (w : WakeRecord) : List Nat :=
  [boolCode w.enabled, w.binding.code, w.arm.toNat, boolCode w.abortFlag, optDomainCode w.needs]

/-- A wake-table record of W1–W15 from its field codes; binding BUTTON is no value of theirs (R104). -/
def wakeRecordOf : List Nat → Option WakeRecord
  | [en, bi, ar, ab, nd] => do
    let w : WakeRecord :=
      { enabled := ← boolOf en, binding := ← bindingOf bi,
        arm := ← (if ar < 16 then some (BitVec.ofNat 4 ar) else none),
        abortFlag := ← boolOf ab, needs := ← optDomainOf nd }
    if w.binding = .button then none else some w
  | _ => none

/-- A capture record in field order (table 11). -/
def CaptureRecord.fields (c : CaptureRecord) : List Nat :=
  [boolCode c.captured, c.count, boolCode c.overwritten, c.milli.toNat,
   (match c.platform with | none => 255 | some p => p.code), c.effect.code]

/-- An agent record in field order (table 12). -/
def AgentRecord.fields (a : AgentRecord) : List Nat :=
  [boolCode a.present, optDomainCode a.powering, a.misses]

/-- An agent record from its field codes (R160). -/
def agentRecordOf : List Nat → Option AgentRecord
  | [p, d, m] => do
    some { present := ← boolOf p, powering := ← optDomainOf d, misses := m }
  | _ => none

/-- The four fields of one copy of an indicator pattern (table 13). -/
def IndPattern.fields (q : IndPattern) : List Nat :=
  [q.mode.code, q.period, q.onTime, boolCode q.inverted]

/-- R126: the ranges of a pattern. -/
def IndPattern.wf (q : IndPattern) : Bool := 1 ≤ q.period && q.period ≤ 4095 && q.onTime ≤ 4095

/-- A pattern from its field codes (R126). -/
def indPatternOf (m p a i : Nat) : Option IndPattern := do
  let q : IndPattern := { mode := ← indModeOf m, period := p, onTime := a, inverted := ← boolOf i }
  if q.wf then some q else none

/-- R120: the ranges of the button's times, and their order. -/
def buttonTimesWf (debounce override : Nat) : Bool :=
  1 ≤ debounce && debounce ≤ 255 && 62 ≤ override && override ≤ 1000 && debounce < override

end Sys2Proof.Machine
end

