-- ==== Sys2Proof/Machine/Frames.lean ====
section
/-! DEFINITION. Frames on the wire: the layout of Table 9-1 and Table 11-1, the check value (R148), the checks
of a received sequence (R147, R149, R188), and the frames the part builds (R163, R185, R187, R191). -/

namespace Sys2Proof.Machine

open Sys2Proof

/-! ## Check value (R148) -/

/-- R148: one shift of the running value. -/
def crcShift (c : Byte) : Byte := if c.msb then (c <<< 1) ^^^ 0x07 else c <<< 1

/-- R148: the running value after one byte. -/
def crcByte (c b : Byte) : Byte :=
  crcShift <| crcShift <| crcShift <| crcShift <| crcShift <| crcShift <| crcShift <| crcShift <| c ^^^ b

/-- R148: CRC-8, polynomial 07h, initial value FFh. -/
def crc8 (bytes : List Byte) : Byte := bytes.foldl crcByte 0xFF

/-! ## Layout (Table 9-1) -/

/-- Table 9-1: the code of a frame kind. -/
def FrameKind.code : FrameKind → BitVec 4
  | .sig => 1
  | .xfer => 2
  | .xferReply => 3
  | .cfgWr => 4
  | .cfgRd => 5
  | .cfgRsp => 6
  | .note => 7

/-- Table 9-1: the kind of a code. -/
def frameKindOf (c : BitVec 4) : Option FrameKind :=
  match c.toNat with
  | 1 => some .sig
  | 2 => some .xfer
  | 3 => some .xferReply
  | 4 => some .cfgWr
  | 5 => some .cfgRd
  | 6 => some .cfgRsp
  | 7 => some .note
  | _ => none

/-- R147, R188: the body fits the kind. -/
def bodyFits (k : FrameKind) (body : List Byte) : Bool :=
  match k with
  | .sig => body.length == 2 && (body.getD 1 0).toNat ≤ 1
  | .xfer | .xferReply => 1 ≤ body.length && body.length ≤ 32
  | .cfgWr => 4 ≤ body.length && body.length ≤ 32
  | .cfgRd => body.length == 2
  | .cfgRsp => 3 ≤ body.length && body.length ≤ 32
  | .note => body.length == 6

/-- R147: the frame is well formed. -/
def Frame.wf (f : Frame) : Bool := bodyFits f.kind f.body

/-- Table 9-1: bytes 0 to 2 + n. -/
def Frame.content (f : Frame) : List Byte :=
  (f.kind.code ++ f.tag) :: (f.dest ++ f.source) :: BitVec.ofNat 8 f.body.length :: f.body

/-- Table 9-1: the whole sequence, ended by its check value. -/
def Frame.wire (f : Frame) : List Byte := f.content ++ [crc8 f.content]

/-- R147, R149: the frame of a received sequence whose check value matches and whose layout is well formed. -/
def parseFrame : List Byte → Option Frame
  | b0 :: b1 :: b2 :: rest =>
    match frameKindOf (b0.extractLsb' 4 4) with
    | none => none
    | some k =>
      let body := rest.take b2.toNat
      if rest.length = b2.toNat + 1 ∧ rest.getD b2.toNat 0 = crc8 (b0 :: b1 :: b2 :: body) ∧ bodyFits k body = true then
        some { kind := k, tag := b0.extractLsb' 0 4, dest := b1.extractLsb' 4 4, source := b1.extractLsb' 0 4, body := body }
      else none
  | _ => none

/-- R149: the source agents allowed on a port. -/
def sourceAllowed : Port → BitVec 4 → Bool
  | .up, a => a == 0
  | .dn, a => 1 ≤ a.toNat && a.toNat ≤ 14

/-- R149: the frame of a received sequence that is not malformed on this port. -/
def receivedFrame (p : Port) (bytes : List Byte) : Option Frame :=
  match parseFrame bytes with
  | none => none
  | some f => if sourceAllowed p f.source then some f else none

/-! ## Reading a frame -/

/-- The signal number of a SIG frame. -/
def Frame.signal (f : Frame) : Byte := f.body.getD 0 0

/-- The level of a SIG frame (R140). -/
def Frame.level (f : Frame) : Level := if f.body.getD 1 0 = 0 then .deasserted else .asserted

/-- R147: an XFER frame asks for a reply. -/
def Frame.replyWanted (f : Frame) : Bool := (f.body.getD 0 0).getLsbD 0

/-- R142: a frame with its signal number changed by MAP. -/
def Frame.withSignal (f : Frame) (n : Byte) : Frame := { f with body := n :: f.body.drop 1 }

/-! ## Frames the part builds (R163) -/

/-- R163: an own signal, toward the hub or toward the segment. -/
def ownSignal (sig : Byte) (l : Level) : Frame :=
  { kind := .sig, tag := 0, dest := 0, source := 15, body := [sig, BitVec.ofNat 8 l.code] }

/-- R159, R163: the NO_AGENT reply for agent `a`. -/
def noAgentReply (req : Frame) (a : BitVec 4) : Frame :=
  { kind := .xferReply, tag := req.tag, dest := 0, source := a, body := [0x0E] }

/-- R187: the DENIED reply, built from the request's header alone. -/
def deniedReply (req : Frame) : Frame :=
  { kind := .cfgRsp, tag := req.tag, dest := req.source, source := 15,
    body := [BitVec.ofNat 8 CfgStatus.denied.code, 0, 0] }

/-- R184, R185: the CFG_RSP of a request: status, table id and index, and the record of a successful read. -/
def cfgResponse (req : Frame) (st : CfgStatus) (record : List Byte) : Frame :=
  { kind := .cfgRsp, tag := req.tag, dest := 0, source := 15,
    body := BitVec.ofNat 8 st.code :: req.body.getD 0 0 :: req.body.getD 1 0 :: record }

/-- R191: the ten domain change flags; bit k is Dk. -/
def State.changeMask (s : State) : Nat :=
  (allDomains.map fun d => if (s.dom d).change then 2 ^ d.val else 0).sum

/-- R191: the NOTE as it is built now. Its flag and change masks stand as fields do, most significant byte first
(DEDUCED, log 29). -/
def State.noteFrame (s : State) : Frame :=
  { kind := .note, tag := 0, dest := 0, source := 15,
    body := fieldBytes 1 s.platform.code ++ fieldBytes 2 s.notices.flags.toNat ++ fieldBytes 2 s.changeMask
      ++ fieldBytes 1 (wakeCauseCode s.wakeCause) }

/-- R184: a CFG_WR request of the hub. -/
def cfgWrite (tag : BitVec 4) (table index : Byte) (mask : BitVec 16) (values : List Byte) : Frame :=
  { kind := .cfgWr, tag := tag, dest := 15, source := 0,
    body := table :: index :: fieldBytes 2 mask.toNat ++ values }

/-- R185: a CFG_RD request of the hub. -/
def cfgRead (tag : BitVec 4) (table index : Byte) : Frame :=
  { kind := .cfgRd, tag := tag, dest := 15, source := 0, body := [table, index] }

/-- R186: the request that issues the command of a code, with its argument. -/
def cfgCommand (tag : BitVec 4) (code : Byte) (arg : BitVec 16) : Frame :=
  cfgWrite tag 0 code 1 (fieldBytes 2 arg.toNat)

end Sys2Proof.Machine
end

