-- ==== Sys2Proof/Machine/Signals.lean ====
section
/-! DEFINITION. The signal table as the classifier and the sequencer search it: lookup (R136), the requested
state (R4), the veto test (R13), the GUARD search (R34), the writes of tracked levels (R140). -/

namespace Sys2Proof.Machine

open Sys2Proof

/-- The entry has this key and is in use (R131). -/
def SignalEntry.hasKey (e : SignalEntry) (p : Port) (agent : BitVec 4) (sig : Byte) : Bool :=
  e.inUse && e.port == p && e.agent == agent && e.signal == sig

/-- R136, R133: the index of the in-use entry with this key. -/
def State.findSignal (s : State) (p : Port) (agent : BitVec 4) (sig : Byte) : Option (Fin 64) :=
  (List.finRange 64).find? fun i => (s.signals.get i).hasKey p agent sig

/-- The in-use entry with this key. -/
def State.lookup (s : State) (p : Port) (agent : BitVec 4) (sig : Byte) : Option SignalEntry :=
  (s.findSignal p agent sig).map s.signals.get

/-- R140: the tracked level of the matching in-use TRACK entry is written. -/
def State.writeLevel (s : State) (p : Port) (agent : BitVec 4) (sig : Byte) (l : Level) : State :=
  match s.findSignal p agent sig with
  | none => s
  | some i =>
    if (s.signals.get i).track then
      { s with signals := s.signals.set i.val { s.signals.get i with level := l.tracked } i.isLt }
    else s

/-- R4: an in-use REQUEST entry for this target is ASSERTED. -/
def State.asksFor (s : State) (t : LowState) : Bool :=
  (List.finRange 64).any fun i =>
    let e := s.signals.get i
    e.inUse && e.request == some t && e.level == .asserted

/-- R4: the requested state computed from the table: the deepest ASSERTED target, or RUN. -/
def State.computeRequested (s : State) : Requested :=
  if s.asksFor .off then .low .off
  else if s.asksFor .hibernate then .low .hibernate
  else if s.asksFor .suspend then .low .suspend
  else .run

/-- R13: an in-use VETO entry is ASSERTED. -/
def State.vetoed (s : State) : Bool :=
  (List.finRange 64).any fun i =>
    let e := s.signals.get i
    e.inUse && e.veto && e.level == .asserted

/-- R168: the key is that of an in-use entry with TRACK. -/
def State.tracksKey (s : State) (p : Port) (agent : BitVec 4) (sig : Byte) : Bool :=
  match s.lookup p agent sig with
  | none => false
  | some e => e.track

end Sys2Proof.Machine
end

