-- ==== Sys2Proof/Machine/Sets.lean ====
section
/-! DEFINITION. The set manager: validation of a domain set and of a plan (R167, R168), the apply of selected
items (R169, R170, R171, R173) with its effect on the runtime records (R84, R99), and RESTORE_STAGED (R176). -/

namespace Sys2Proof.Machine

open Sys2Proof

/-! ## Plans as lists of steps -/

/-- The step of a plan at an index below its step count (R21). -/
def Plan.step? (p : Plan) (i : Nat) : Option Step :=
  if i < p.count then p.steps[i]? else none

/-- The steps that are run, with their indexes (R21). -/
def Plan.live (p : Plan) : List (Nat × Step) :=
  (List.range p.count).filterMap fun i => (p.step? i).map fun t => (i, t)

/-- The domain a step names (R168): that of an ENABLE, DISABLE, AWAIT_GOOD or AWAIT_LOW step. -/
def Step.namesDomain (t : Step) : Option DomainId :=
  match t.kind, t.place with
  | .enable, .domain d | .disable, .domain d | .awaitGood, .domain d | .awaitLow, .domain d => some d
  | _, _ => none

/-- The index of a plan's first COMMIT step. -/
def Plan.commitIndex (p : Plan) : Option Nat :=
  (p.live.find? fun x => x.2.kind == .commit).map (·.1)

/-! ## The domain set (R167) -/

/-- Following parent fields from `x`, at most `n` of them, reaches `target`. -/
def reachesDomain (ds : Vector DomainConfig 10) (target : DomainId) : Nat → DomainId → Bool
  | 0, _ => false
  | n + 1, x =>
    match (ds.get x).parent with
    | none => false
    | some p => p == target || reachesDomain ds target n p

/-- R167, REJ_DOMAIN_GRAPH: the graph rules hold of one domain. -/
def graphRule (ds : Vector DomainConfig 10) (d : DomainId) : Bool :=
  let c := ds.get d
  if c.present then
    !reachesDomain ds d 10 d
      && (match c.parent with
          | none => true
          | some p => (ds.get p).present && (!c.pinned || (ds.get p).pinned))
  else !c.pinned && !c.critical

/-- R167, REJ_DOMAIN_GRAPH: the graph rules hold. -/
def graphOk (ds : Vector DomainConfig 10) : Bool := allDomains.all (graphRule ds)

/-- R167, REJ_REFERENCE: a step of some active plan names the domain. -/
def State.planNames (s : State) (d : DomainId) : Bool :=
  (List.finRange 7).any fun k => (s.active.plans.get k).live.any fun x => x.2.namesDomain == some d

/-- R167, REJ_REFERENCE: no domain named by an active plan is removed. -/
def State.referencesKept (s : State) (ds : Vector DomainConfig 10) : Bool :=
  allDomains.all fun d => !((s.cfg d).present && !(ds.get d).present && s.planNames d)

/-- R167, REJ_LIVE: the new set strands no live domain. -/
def State.liveKept (s : State) (ds : Vector DomainConfig 10) : Bool :=
  allDomains.all fun d =>
    (!(s.dom d).state.enabled || (match (ds.get d).parent with | none => true | some p => s.isOn p))
      && (!(s.dom d).state.active || (ds.get d).present)

/-- R167: the outcome of judging a domain set. -/
def State.judgeDomainSet (s : State) (ds : Vector DomainConfig 10) : ApplyStatus :=
  if !graphOk ds then .rejDomainGraph
  else if !s.referencesKept ds then .rejReference
  else if !s.liveKept ds then .rejLive
  else .success

/-! ## A plan (R168) -/

/-- R168: the slots in which a step kind is legal. -/
def kindLegal (slot : SlotId) : StepKind → Bool
  | .enable | .awaitGood | .sync | .guard | .retry => slot.val ≤ 5
  | .disable | .awaitLow | .delay | .emit => true
  | .park | .commit => slot.val ≤ 2

/-- R168: the units legal for a step kind. -/
def unitLegal : StepKind → StepUnit → Bool
  | .awaitGood, _ | .awaitLow, _ => true
  | .park, .milli => true
  | .park, _ => false
  | _, .learned => false
  | _, _ => true

/-- R168: the failure actions legal at a position; `c` is the COMMIT step's index. -/
def actionLegal (slot : SlotId) (c : Option Nat) (i : Nat) : FailAction → Bool
  | .abort => slot.val ≤ 2 && (match c with | some k => i < k | none => false)
  | .trip => slot.val ≤ 5
  | .cont => true

/-- R168: the retry target of a RETRY step is legal. -/
def retryLegal (slot : SlotId) (c : Option Nat) (i : Nat) (t : Step) : Bool :=
  t.kind != .retry
    || (t.retryTarget < i
        && (match c with
            | some k => !(slot.val ≤ 2 && k < i) || k < t.retryTarget
            | none => true))

/-- R168, REJ_SHAPE: one step keeps the shape rules. -/
def stepShape (slot : SlotId) (c : Option Nat) (x : Nat × Step) : Bool :=
  kindLegal slot x.2.kind && unitLegal x.2.kind x.2.unit && actionLegal slot c x.1 x.2.action && retryLegal slot c x.1 x.2

/-- R168, REJ_SHAPE: an entry plan has exactly one COMMIT, and at most one PARK, before it. -/
def entryShape (p : Plan) : Bool :=
  (p.live.filter fun x => x.2.kind == .commit).length == 1
    && (p.live.filter fun x => x.2.kind == .park).length ≤ 1
    && p.live.all fun x => x.2.kind != .park || (match p.commitIndex with | some k => x.1 < k | none => false)

/-- R168, REJ_SHAPE: the plan keeps the shape rules of its slot. -/
def planShape (slot : SlotId) (p : Plan) : Bool :=
  (3 ≤ slot.val || entryShape p) && p.live.all (stepShape slot p.commitIndex)

/-- R168, REJ_REFERENCE: a step names what it can reach. -/
def State.stepReference (s : State) (t : Step) : Bool :=
  match t.kind with
  | .enable | .disable | .awaitGood | .awaitLow =>
    match t.place with
    | .domain d => (s.cfg d).present
    | .port _ => false
  | .emit | .sync =>
    match t.place with
    | .domain _ => false
    | .port _ => true
  | .guard =>
    match t.place with
    | .domain _ => false
    | .port p => s.tracksKey p t.agent t.signal
  | .delay | .park | .commit | .retry => true

/-- R168: the outcome of judging a plan of a slot against the active domain set as it stands. -/
def State.judgePlan (s : State) (slot : SlotId) (p : Plan) : ApplyStatus :=
  if p.count = 0 then .rejEmpty
  else if !planShape slot p then .rejShape
  else if !(p.live.all fun x => s.stepReference x.2) then .rejReference
  else .success

/-! ## Applying (R169, R170, R84, R99) -/

/-- R84: a domain that becomes not present is OFF with its hold-off idle; a FAULT domain changes state by it. -/
def State.removeDomain (s : State) (d : DomainId) : State :=
  let r := { s.dom d with state := .off, hold := none }
  if (s.dom d).state = .fault then s.changeDom d r else s.setDom d r

/-- R99: a changed window forgets its direction's average. -/
def DomainRuntime.rewindow (r : DomainRuntime) (old new : DomainConfig) : DomainRuntime :=
  { r with
    riseAvg := if old.riseMin = new.riseMin ∧ old.riseMax = new.riseMax then r.riseAvg else none,
    fallAvg := if old.fallMin = new.fallMin ∧ old.fallMax = new.fallMax then r.fallAvg else none }

/-- R84: the runtime record of one domain at the copy, `old` being the record replaced. -/
def State.recordCopied (s : State) (d : DomainId) (old new : DomainConfig) : State :=
  let s1 := if old.present && !new.present then s.removeDomain d else s
  s1.setDom d ((s1.dom d).rewindow old new)

/-- R82, R84: the copy is a test of a domain that becomes pinned and of a pinned one whose parent changes. -/
def State.pinnedCopied (s : State) (d : DomainId) (old new : DomainConfig) : State :=
  if new.pinned && (!old.pinned || new.parent != old.parent) then s.tryPinned d else s

/-- R170, R84: the copy of an accepted domain set. -/
def State.copyDomainSet (s : State) (ds : Vector DomainConfig 10) : State :=
  let old := s.active.domains
  let s1 := { s with active := { s.active with domains := ds } }
  let s2 := allDomains.foldl (fun t d => t.recordCopied d (old.get d) (ds.get d)) s1
  allDomains.foldl (fun t d => t.pinnedCopied d (old.get d) (ds.get d)) s2

/-- R170: the copy of an accepted plan. -/
def State.copyPlan (s : State) (slot : SlotId) (p : Plan) : State :=
  { s with active := { s.active with plans := s.active.plans.set slot.val p slot.isLt } }

/-- R171, R173, R174: an item's apply clears its mark and writes its outcome. -/
def State.setOutcome (s : State) (k : ItemId) (st : ApplyStatus) : State :=
  { s with
    applyPending := s.applyPending.set k.val false k.isLt,
    applyStatus := s.applyStatus.set k.val st k.isLt }

/-- R169, R170: the domain set is judged and, if accepted, copied. -/
def State.applyDomains (s : State) : State :=
  let st := s.judgeDomainSet s.staged.domains
  (if st = .success then s.copyDomainSet s.staged.domains else s).setOutcome 7 st

/-- R169, R170: a plan is judged and, if accepted, copied. -/
def State.applyPlan (s : State) (slot : SlotId) : State :=
  let p := s.staged.plans.get slot
  let st := s.judgePlan slot p
  (if st = .success then s.copyPlan slot p else s).setOutcome slot.castSucc st

/-- R169: the selected items are judged and copied, the domain set first, then the plans in slot order. -/
def State.applyItems (s : State) (sel : ItemId → Bool) : State :=
  let s1 := if sel 7 then s.applyDomains else s
  (List.finRange 7).foldl (fun t k => if sel k.castSucc then t.applyPlan k else t) s1

/-- R171, R173: an apply of a selection that names an item sets APPLY_DONE; one that names none does nothing. -/
def State.applySelected (s : State) (sel : ItemId → Bool) : State :=
  if (List.finRange 8).any sel then (s.applyItems sel).notify .applyDone else s

/-- R173: the items with an apply-pending mark are applied at a plan completion. -/
def State.applyPendingItems (s : State) : State :=
  s.applySelected s.applyPending.get

/-- R172: an item is marked to be applied at the next plan completion. -/
def State.markPending (s : State) (k : ItemId) : State :=
  { s with
    applyPending := s.applyPending.set k.val true k.isLt,
    applyStatus := s.applyStatus.set k.val .inProgress k.isLt }

/-- R172: the items of a mask are marked. -/
def State.markItems (s : State) (sel : ItemId → Bool) : State :=
  (List.finRange 8).foldl (fun t k => if sel k then t.markPending k else t) s

/-- R176: RESTORE_STAGED. -/
def State.restoreStaged (s : State) : State := { s with staged := romSet }

end Sys2Proof.Machine
end

