-- ==== Sys2Proof/Machine/Plans.lean ====
section
/-! DEFINITION. The transition sequencer: plan starts (R2, R3), steps (chapter 2), failure actions, aborts and
rollback, trips (chapter 3), plan completion (R15), and the effects that reach it (R4 to R14, R35). -/

namespace Sys2Proof.Machine

open Sys2Proof

/-! ## The running-plan context -/

/-- The plan that runs, from the active copy of its slot (R21). -/
def State.runningPlan (s : State) : Option Plan := s.ctx.slot.map s.active.plans.get

/-- The current step's record (R22). -/
def State.currentStep (s : State) : Option Step :=
  match s.runningPlan with
  | none => none
  | some p => p.step? s.ctx.index

/-- What the sequencer waits for. -/
def State.setWait (s : State) (w : Wait) : State := { s with ctx := { s.ctx with wait := w } }

/-- R23: the retry counters of a plan that starts. -/
def freshRetries (p : Plan) : Vector Nat 32 :=
  Vector.ofFn fun i =>
    match p.step? i.val with
    | some t => if t.kind = .retry then t.retryCount else 0
    | none => 0

/-- R23: the context of a plan that starts. -/
def State.setUpPlan (s : State) (slot : SlotId) (por : Portion) (target : Option TripTarget) : State :=
  { s with
    ctx := { releasedContext with
      slot := some slot, portion := por, retries := freshRetries (s.active.plans.get slot), tripTarget := target } }

/-! ## The undo stack (R43) -/

/-- R43: two records are for the same domain, or for the same port and signal. -/
def UndoRecord.sameSubject : UndoRecord → UndoRecord → Bool
  | .domain d _, .domain e _ => d == e
  | .signal p n _, .signal q m _ => p == q && n == m
  | _, _ => false

/-- R43: a check-portion change pushes a record, unless its subject already has one. -/
def State.pushUndo (s : State) (r : UndoRecord) : State :=
  if s.ctx.portion = .check ∧ s.undo.all (fun u => !u.sameSubject r) then { s with undo := r :: s.undo } else s

/-! ## Aborts (R46) -/

/-- R46: an abort. -/
def State.abort (s : State) (c : AbortCause) : Act :=
  let s1 := { (s.setWait .idle).notify .entryAborted with lastAbort := some c }
  let s2 := { s1 with ctx := { s1.ctx with portion := .rollback } }
  (s2.enterPlatform .returning, [.rollback])

/-! ## Plan starts (R2, R3, R13) -/

/-- R2: the slot of an entry plan. -/
def entrySlot : LowState → SlotId
  | .suspend => 0
  | .hibernate => 1
  | .off => 2

/-- R2, R13: an entry plan starts from RUN and makes its veto test. -/
def State.startEntry (s : State) (t : LowState) : Act :=
  let s1 := { s.setUpPlan (entrySlot t) .check none with undo := [] }
  let s2 := s1.enterPlatform .checking
  if s2.vetoed then s2.abort .veto else (s2, [.start 0])

/-- R3: the slot of an exit plan. -/
def exitSlot : PlatformState → Option SlotId
  | .suspended => some 3
  | .hibernated => some 4
  | .softOff | .tripped => some 5
  | .run | .checking | .parked | .committing | .waking | .returning | .tripping => none

/-- R3: an exit plan starts from a low-power rest state; step 0 waits for RISING pinned domains. -/
def State.startExit (s : State) (c : WakeCause) : Act :=
  match exitSlot s.platform with
  | none => (s, [])
  | some slot =>
    let s1 := { s.setUpPlan slot .exit none with wakeCause := some c }
    let s2 := s1.enterPlatform .waking
    if s2.pinnedRising then (s2.setWait .pinned, []) else (s2, [.start 0])

/-! ## Trips (R54 to R57) -/

/-- R56: a trip cause is written into the trip-cause record. -/
def TripRecord.add (r : TripRecord) (c : TripCause) : TripRecord :=
  match r.first with
  | none => { r with first := some c }
  | some _ => { r with secondary := satAdd secondaryCeiling r.secondary 1 }

/-- R54: the trip target of a cause. -/
def TripCause.target : TripCause → TripTarget
  | .override => .softOff
  | .criticalFault _ | .thermal | .rollbackFailed | .exitFailed _ | .entryFailed _ | .retryExhausted _ => .tripped

/-- R57: a cause other than OVERRIDE turns a target of SOFT_OFF to TRIPPED. -/
def retarget (t : Option TripTarget) (c : TripCause) : Option TripTarget :=
  if c.target = .tripped then t.map fun _ => .tripped else t

/-- R55: the trip plan starts. -/
def State.startTrip (s : State) (c : TripCause) : Act :=
  let s1 := { s with
    undo := [], pendingWake := none, pendingRequest := false, requestStale := false, trip := s.trip.add c }
  let s2 := s1.setUpPlan 6 .trip (some c.target)
  ((s2.enterPlatform .tripping).notify .tripped, [.start 0])

/-- R55, R57: a trip cause reaches the sequencer. -/
def State.takeTrip (s : State) (c : TripCause) : Act :=
  match s.platform with
  | .tripping => ({ s with trip := s.trip.add c, ctx := { s.ctx with tripTarget := retarget s.ctx.tripTarget c } }, [])
  | .tripped => ({ s with trip := s.trip.add c }, [])
  | .run | .checking | .parked | .committing | .suspended | .hibernated | .softOff | .waking | .returning => s.startTrip c

/-! ## Plan completion (R15 to R17) -/

/-- R15, step 3: the state is entered and the context released. -/
def State.enterRest (s : State) (p : PlatformState) : State :=
  { s.enterPlatform p with ctx := releasedContext }

/-- Table 1-2: the rest state an entry plan's completion enters. -/
def entryRest (slot : Option SlotId) : PlatformState :=
  match slot with
  | some 0 => .suspended
  | some 1 => .hibernated
  | _ => .softOff

/-- R16: the completion of an entry plan, with the bounce of a held wake. -/
def State.completeEntry (s : State) : Act :=
  let s1 := State.enterRest { s with pendingWake := none } (entryRest s.ctx.slot)
  match s.pendingWake with
  | none => (s1, [])
  | some c => s1.startExit c

/-- R17: the completion of an exit plan, with the entry of a pending request. -/
def State.completeExit (s : State) : Act :=
  let s1 := State.enterRest { s with pendingRequest := false } .run
  match s.pendingRequest, s.requested with
  | true, .low t => s1.startEntry t
  | true, .run | false, _ => (s1, [])

/-- R12, R49: the completion of a rollback. -/
def State.completeRollback (s : State) : Act :=
  (State.enterRest { s with requestStale := s.requested != .run } .run, [])

/-- R60: the completion of the trip plan enters the trip target. -/
def State.completeTrip (s : State) : Act :=
  (s.enterRest (match s.ctx.tripTarget with
    | some .softOff => .softOff
    | some .tripped | none => .tripped), [])

/-- R15: a plan completes: the sweep, pending applies, the state entered, the follow-on. -/
def State.completePlan (s : State) : Act :=
  match s.ctx.portion with
  | .none => (s, [])
  | .check | .commit => s.applyPendingItems.completeEntry
  | .exit => s.applyPendingItems.completeExit
  | .rollback => s.applyPendingItems.completeRollback
  | .trip =>
    let (s1, w1) := s.finalSweep
    let (s2, w2) := s1.applyPendingItems.completeTrip
    (s2, w1 ++ w2)

/-! ## The end of a step (R24, R38 to R41) -/

/-- R24: the platform leaves PARKED when the PARK step ends other than by an abort or a trip. -/
def State.leavePark (s : State) : State :=
  if s.platform = .parked then s.enterPlatform .checking else s

/-- R24: the current step completes and the next one starts. -/
def State.completeStep (s : State) : Act :=
  ((s.setWait .idle).leavePark, [.start (s.ctx.index + 1)])

/-- R37, R41: the trip cause of a step that fails under TRIP. -/
def stepTripCause (slot : Option SlotId) (t : Step) (i : Nat) : TripCause :=
  if t.kind = .retry then .retryExhausted i
  else match slot with
    | some k => if k.val ≤ 2 then .entryFailed i else .exitFailed i
    | none => .exitFailed i

/-- R39 to R41: the current step fails and its failure action is applied. -/
def State.failStep (s : State) : Act :=
  let s0 := s.setWait .idle
  match s.currentStep with
  | none => (s0, [])
  | some t =>
    match t.action with
    | .cont =>
      let s1 := s0.leavePark
      ({ s1 with ctx := { s1.ctx with failMark := true } }.notify .stepFailed, [.start (s.ctx.index + 1)])
    | .abort => s0.abort (if t.kind = .park then .parkLimit else .step s.ctx.index)
    | .trip => (s0, [.tripCause (stepTripCause s.ctx.slot t s.ctx.index)])

/-- R53: the rollback fails: the current record is dropped and the trip cause ROLLBACK_FAILED is taken. -/
def State.failRollback (s : State) : Act :=
  ({ s with ctx := { s.ctx with wait := .idle, record := none } }, [.tripCause .rollbackFailed])

/-- R49: the current record's work completes. -/
def State.recordDone (s : State) : Act :=
  ({ s with ctx := { s.ctx with wait := .idle, record := none } }, [.rollback])

/-! ## Waits (R25, R26, R50 to R52) -/

/-- R25, R26, R29, R30, R50 to R53, R77: the budget of the present wait has run out. The sequencer's own
handling comes before the reports that a TIMEOUT fault hands back. -/
def State.expireWait (s : State) : Act :=
  match s.ctx.wait with
  | .good d =>
    let (s1, w1) := s.waitExpiry d true
    let (s2, w2) := s1.failStep
    (s2, w2 ++ w1)
  | .low d =>
    let (s1, w1) := s.waitExpiry d false
    let (s2, w2) := s1.failStep
    (s2, w2 ++ w1)
  | .delay => s.completeStep
  | .enable _ | .space _ _ _ | .drain _ | .level _ _ _ _ | .release => s.failStep
  | .rollbackGood d =>
    let (s1, w1) := s.waitExpiry d true
    let (s2, w2) := s1.failRollback
    (s2, w2 ++ w1)
  | .rollbackLow d =>
    let (s1, w1) := s.waitExpiry d false
    let (s2, w2) := s1.failRollback
    (s2, w2 ++ w1)
  | .rollbackSpace _ _ _ => s.failRollback
  | .idle | .pinned | .rollbackEnable _ => (s, [])

/-- R25: a wait begins; with a budget of 0 it expires at once. -/
def State.waitFor (s : State) (w : Wait) : Act :=
  if s.ctx.budget = some 0 then (s.setWait w).expireWait else (s.setWait w, [])

/-- R49: a rollback record's wait begins, timed in fine ticks from now. -/
def State.recordWait (s : State) (w : Wait) (budget : Nat) : Act :=
  { s with ctx := { s.ctx with clock := .fine, startTick := s.fine, budget := some budget } }.waitFor w

/-! ## Emissions (R32, R42, R52) -/

/-- R163, R154: an own signal is placed in the port's own queue, or discarded at a DOWN port. -/
def State.sendOwn (s : State) (p : Port) (sig : Byte) (l : Level) : State :=
  if (s.port p).linkUp then s.enqueue (ownQueue p) (ownSignal sig l) else s.discard p 1

/-- R32: an own signal can leave the sequencer now: the port is DOWN, or its own queue has space. -/
def State.canSend (s : State) (p : Port) : Bool :=
  !(s.port p).linkUp || s.hasPlace (ownQueue p)

/-- R32, R42, R43: an EMIT step's emission, with its undo record and its write of the map. -/
def State.emitStep (s : State) (p : Port) (sig : Byte) (l : Level) : State :=
  let s1 := if s.emitted p sig = l then s else s.pushUndo (.signal p sig (s.emitted p sig))
  (s1.sendOwn p sig l).setEmitted p sig l

/-- R33: the port's own queue is empty and its transmitter is not sending a frame taken from it. -/
def State.drained (s : State) (p : Port) : Bool :=
  (s.queue (ownQueue p)).isEmpty
    && match (s.port p).sending with
       | none => true
       | some (q, _) => !(q == ownQueue p)

/-! ## Steps (R27 to R37) -/

/-- R27, R43: an accepted ENABLE, with its undo record when it changed the domain. -/
def State.enableAccepted (s : State) (d : DomainId) : Act :=
  let changed := !(s.dom d).state.enabled
  let (s1, w1) := s.enableEffect d .accepted
  let s2 := if changed then s1.pushUndo (.domain d false) else s1
  let (s3, w2) := s2.completeStep
  (s3, w1 ++ w2)

/-- R27: an ENABLE step, from the controller's answer. -/
def State.enableStep (s : State) (d : DomainId) : Act :=
  match s.judgeEnable d with
  | .accepted => s.enableAccepted d
  | .dependency | .stillPowered => s.failStep
  | .deferred => s.waitFor (.enable d)

/-- R28, R43: a DISABLE step. -/
def State.disableStep (s : State) (d : DomainId) : Act :=
  if s.disableRefused d then s.failStep
  else
    let changed := !(s.cfg d).pinned && (s.dom d).state.enabled
    let (s1, w1) := s.disableEffect d
    let s2 := if changed then s1.pushUndo (.domain d true) else s1
    let (s3, w2) := s2.completeStep
    (s3, w1 ++ w2)

/-- R34: a GUARD step. -/
def State.guardStep (s : State) (p : Port) (agent : BitVec 4) (sig : Byte) (l : Level) : Act :=
  match s.lookup p agent sig with
  | none => s.failStep
  | some e =>
    if !e.track then s.failStep
    else if e.level = l.tracked then s.completeStep
    else s.waitFor (.level p agent sig l)

/-- R36: the COMMIT step. -/
def State.commitStep (s : State) : Act :=
  let s1 := { s with ctx := { s.ctx with portion := .commit }, undo := [] }
  (s1.enterPlatform .committing).completeStep

/-- R37: a RETRY step. -/
def State.retryStep (s : State) (t : Step) : Act :=
  if !s.ctx.failMark then s.completeStep
  else if h : s.ctx.index < 32 then
    let left := s.ctx.retries[s.ctx.index]
    if 0 < left then
      ({ s with ctx := { s.ctx with failMark := false, retries := s.ctx.retries.set s.ctx.index (left - 1) h } },
       [.start t.retryTarget])
    else s.failStep
  else s.failStep

/-- R27 to R37: the start action of a step. A step whose domain-or-port field does not fit its kind is let
through by no apply (R168); here it fails (log 15). -/
def State.stepAction (s : State) (t : Step) : Act :=
  match t.kind, t.place with
  | .enable, .domain d => s.enableStep d
  | .disable, .domain d => s.disableStep d
  | .awaitGood, .domain d => if s.isOn d then s.completeStep else s.waitFor (.good d)
  | .awaitLow, .domain d => if (s.dom d).state = .off then s.completeStep else s.waitFor (.low d)
  | .emit, .port p =>
    if s.canSend p then (s.emitStep p t.signal t.level).completeStep else s.waitFor (.space p t.signal t.level)
  | .sync, .port p =>
    if !(s.port p).linkUp || s.drained p then s.completeStep else s.waitFor (.drain p)
  | .guard, .port p => s.guardStep p t.agent t.signal t.level
  | .delay, _ => s.waitFor .delay
  | .park, _ => (s.enterPlatform .parked).waitFor .release
  | .commit, _ => s.commitStep
  | .retry, _ => s.retryStep t
  | .enable, .port _ | .disable, .port _ | .awaitGood, .port _ | .awaitLow, .port _
  | .emit, .domain _ | .sync, .domain _ | .guard, .domain _ => s.failStep

/-- R24: the counter of a step's unit. -/
def StepUnit.clock : StepUnit → Clock
  | .milli => .milli
  | .fine | .learned => .fine

/-- R25, R35: the budget in force of a step that starts now; a PARK limit of 0 is none. -/
def State.budgetFor (s : State) (t : Step) : Option Nat :=
  match t.unit, t.place with
  | .learned, .domain d => some (if t.kind = .awaitLow then s.fallBudget d else s.riseBudget d)
  | .learned, .port _ => some t.budget
  | .fine, _ | .milli, _ => if t.kind = .park ∧ t.budget = 0 then none else some t.budget

/-- R24: the context records the step that starts. -/
def State.beginStep (s : State) (t : Step) (i : Nat) : State :=
  { s with
    ctx := { s.ctx with
      index := i, clock := t.unit.clock, startTick := s.now t.unit.clock, budget := s.budgetFor t, wait := .idle } }

/-- R24: the step at an index starts; past the last step the plan completes. -/
def State.startStep (s : State) (i : Nat) : Act :=
  match s.runningPlan with
  | none => (s, [])
  | some p =>
    match p.step? i with
    | none => s.completePlan
    | some t => (s.beginStep t i).stepAction t

/-! ## Rollback (R49 to R52) -/

/-- R50: the enable request of a "was on" record, once accepted. -/
def State.recordEnabled (s : State) (d : DomainId) : Act :=
  let (s1, w1) := s.enableEffect d .accepted
  let (s2, w2) := if s1.isOn d then s1.recordDone else s1.recordWait (.rollbackGood d) (s1.riseBudget d)
  (s2, w1 ++ w2)

/-- R50: the work of a "was on" record. -/
def State.recordOn (s : State) (d : DomainId) : Act :=
  match s.judgeEnable d with
  | .accepted => s.recordEnabled d
  | .dependency | .stillPowered => s.failRollback
  | .deferred => ({ s with ctx := { s.ctx with wait := .rollbackEnable d, budget := none } }, [])

/-- R51: the work of a "was off" record. -/
def State.recordOff (s : State) (d : DomainId) : Act :=
  if s.disableRefused d then s.failRollback
  else
    let (s1, w1) := s.disableEffect d
    let (s2, w2) :=
      if (s.cfg d).pinned then s1.recordDone
      else if (s1.dom d).state = .off then s1.recordDone
      else s1.recordWait (.rollbackLow d) (s1.fallBudget d)
    (s2, w1 ++ w2)

/-- R52: the emission of a signal record, with its write of the map. -/
def State.recordEmit (s : State) (p : Port) (sig : Byte) (l : Level) : State :=
  (s.sendOwn p sig l).setEmitted p sig l

/-- R52: the work of a signal record. -/
def State.recordSignal (s : State) (p : Port) (sig : Byte) (l : Level) : Act :=
  if s.canSend p then (s.recordEmit p sig l).recordDone
  else s.recordWait (.rollbackSpace p sig l) rollbackSignalBudget

/-- R49: the rollback takes the top record off the stack and begins its work; with none left it completes. -/
def State.nextRecord (s : State) : Act :=
  match s.undo with
  | [] => s.completePlan
  | r :: rest =>
    let s1 := { s with
      undo := rest,
      ctx := { s.ctx with record := some r, wait := .idle, clock := .fine, startTick := s.fine } }
    match r with
    | .domain d true => s1.recordOn d
    | .domain d false => s1.recordOff d
    | .signal p sig l => s1.recordSignal p sig l

/-! ## Reports of the domain controller (R3, R29, R30, R50, R51, R75, R79) -/

/-- R3: the exit plan's wait for pinned domains ends when no present pinned domain is RISING. -/
def State.pinnedWaitTest (s : State) : Act :=
  if s.ctx.wait = .pinned ∧ s.pinnedRising = false then (s.setWait .idle, [.start 0]) else (s, [])

/-- R79: a domain has reached ON. -/
def State.takeOn (s : State) (d : DomainId) : Act :=
  if s.ctx.wait = .good d then s.completeStep
  else if s.ctx.wait = .rollbackGood d then s.recordDone
  else s.pinnedWaitTest

/-- R79: a domain has reached OFF. -/
def State.takeOff (s : State) (d : DomainId) : Act :=
  if s.ctx.wait = .low d then s.completeStep
  else if s.ctx.wait = .rollbackLow d then s.recordDone
  else (s, [])

/-- R79: a domain has entered FAULT. -/
def State.takeFault (s : State) (d : DomainId) (critical : Bool) : Act :=
  if critical then s.takeTrip (.criticalFault d) else s.pinnedWaitTest

/-- R75: a ramp has reached its overrange expiry. -/
def State.takeOverrange (s : State) (d : DomainId) : Act :=
  if s.ctx.wait = .pinned then
    if (s.cfg d).present && (s.cfg d).pinned && (s.dom d).state == .rising then (s.setWait .idle, [.start 0]) else (s, [])
  else if s.ctx.wait = .rollbackEnable d ∧ (s.dom d).state = .falling then s.failRollback
  else (s, [])

/-- R68: a deferred request is judged again at the end of the hold-off. -/
def State.judgeDeferred (s : State) (d : DomainId) : Act :=
  if s.ctx.wait = .enable d then
    match s.judgeEnable d with
    | .accepted => s.enableAccepted d
    | .dependency | .stillPowered => s.failStep
    | .deferred => (s, [])
  else if s.ctx.wait = .rollbackEnable d then
    match s.judgeEnable d with
    | .accepted => s.recordEnabled d
    | .dependency | .stillPowered => s.failRollback
    | .deferred => (s, [])
  else (s, [])

/-- R74: the hold-off is idle: the deferred request is judged, then R82 is applied. -/
def State.holdOver (s : State) (d : DomainId) : Act :=
  let (s1, w) := s.judgeDeferred d
  (s1.tryPinned d, w)

/-! ## Effects of the classifier (R4 to R14, R34, R35, R54) -/

/-- R7: the low state that the running entry plan is for. -/
def State.entryTarget (s : State) : Option LowState :=
  match s.ctx.slot with
  | some 0 => some .suspend
  | some 1 => some .hibernate
  | some 2 => some .off
  | _ => none

/-- R6 to R11, Table 1-3: a new request by platform state; the requested state is already stored. -/
def State.newRequest (s : State) : Requested → Act
  | .run =>
    match s.platform with
    | .checking | .parked => s.abort .cancel
    | .committing => ({ s with pendingWake := s.pendingWake <|> some .hub }, [])
    | .suspended | .hibernated | .softOff => s.startExit .hub
    | .run | .waking | .returning | .tripping | .tripped => (s, [])
  | .low t =>
    match s.platform with
    | .run => s.startEntry t
    | .checking | .parked => (s.notifyIf (s.entryTarget ≠ some t) .requestRefused, [])
    | .waking => ({ s with pendingRequest := true }, [])
    | .returning => (s, [])
    | .committing | .suspended | .hibernated | .softOff | .tripping | .tripped => (s.notify .requestRefused, [])

/-- R4, R5, R12: a REQUEST effect: the requested state is recomputed; a change is a new request. -/
def State.requestEffect (s : State) : Act :=
  let r := s.computeRequested
  if r = s.requested then (s, [])
  else { s with requested := r, requestStale := false }.newRequest r

/-- R54: a TRIP effect; ASSERTED is the cause THERMAL. -/
def State.tripEffect (s : State) (l : Level) : Act :=
  if l = .asserted then s.takeTrip .thermal else (s, [])

/-- R14: a VETO effect. -/
def State.vetoEffect (s : State) (l : Level) : Act :=
  if l = .asserted ∧ (s.platform = .checking ∨ s.platform = .parked) then s.abort .veto else (s, [])

/-- R35: a RELEASE effect. -/
def State.releaseEffect (s : State) (l : Level) : Act :=
  if l = .asserted ∧ s.ctx.wait = .release then s.completeStep else (s, [])

/-- R34, R140: a tracked level was written; a GUARD step watching the key completes on its level. -/
def State.levelReport (s : State) (p : Port) (agent : BitVec 4) (sig : Byte) (l : Level) : Act :=
  if s.ctx.wait = .level p agent sig l then s.completeStep else (s, [])

/-! ## Events of the sequencer's own waits -/

/-- R25: the budget in force has run out. -/
def State.budgetDue (s : State) : Bool :=
  match s.ctx.budget with
  | none => false
  | some b => expired (s.now s.ctx.clock) s.ctx.startTick b

/-- R32: a waiting EMIT step places its frame when its queue has space. -/
def State.emitPlaced (s : State) : Act :=
  match s.ctx.wait with
  | .space p sig l => if (s.port p).linkUp && s.hasPlace (ownQueue p) then (s.emitStep p sig l).completeStep else (s, [])
  | _ => (s, [])

/-- R33: a waiting SYNC step completes when its condition holds. -/
def State.syncComplete (s : State) : Act :=
  match s.ctx.wait with
  | .drain p => if s.drained p then s.completeStep else (s, [])
  | _ => (s, [])

/-- R52: a waiting rollback signal record places its frame when its queue has space. -/
def State.rollbackPlaced (s : State) : Act :=
  match s.ctx.wait with
  | .rollbackSpace p sig l =>
    if (s.port p).linkUp && s.hasPlace (ownQueue p) then (s.recordEmit p sig l).recordDone else (s, [])
  | _ => (s, [])

/-- R161, R32, R33, R52: the sequencer's waits on the queues of a port that has gone DOWN. -/
def State.portWentDown (s : State) (p : Port) : Act :=
  match s.ctx.wait with
  | .space q sig l => if q = p then (s.emitStep q sig l).completeStep else (s, [])
  | .drain q => if q = p then s.completeStep else (s, [])
  | .rollbackSpace q sig l => if q = p then (s.recordEmit q sig l).recordDone else (s, [])
  | _ => (s, [])

end Sys2Proof.Machine
end

