-- ==== Sys2Proof/Machine/Button.lean ====
section
/-! DEFINITION. The button and indicator unit: edges, recognition and override (R121 to R125), the button's
emissions (R123), and the indicator's phase, wrap and output (R127 to R130). -/

namespace Sys2Proof.Machine

open Sys2Proof

/-! ## The button -/

/-- Replaces the button's record. -/
def State.setButton (s : State) (b : ButtonUnit) : State := { s with button := b }

/-- R121: a falling edge of PWRBTN_N; a line already low has none (log 10). It begins a hold in IDLE alone. -/
def State.buttonFalls (s : State) : State :=
  if s.button.low then s
  else if s.button.hold = .idle then
    s.setButton { s.button with
      low := true, hold := .debouncing, pressTick := s.milli,
      debounceInForce := s.button.debounce, overrideInForce := s.button.override }
  else s.setButton { s.button with low := true }

/-- R123: the button unit tries once to place UP 22h, and writes the hub-signal mark. -/
def State.buttonEmit (s : State) (l : Level) : State :=
  if s.up.linkUp && s.hasPlace .upOwn then
    (s.enqueue .upOwn (ownSignal buttonSignal l)).setButton { s.button with hubMark := l == .asserted }
  else (s.discard .up 1).setButton { s.button with hubMark := false }

/-- R121, R124: a rising edge of PWRBTN_N; a line already high has none (log 10). -/
def State.buttonRises (s : State) : State :=
  if !s.button.low then s
  else
    let s1 := s.setButton { s.button with low := false, hold := .idle }
    match s.button.hold with
    | .idle | .debouncing => s1
    | .held | .overridden => if s.button.hubMark then s1.buttonEmit .deasserted else s1

/-- R122: a hold has reached its debounce expiry. -/
def State.debounceDue (s : State) : Bool :=
  s.button.hold == .debouncing && expired s.milli s.button.pressTick s.button.debounceInForce

/-- R122: the press is recognized. -/
def State.recognize (s : State) : Act :=
  if !s.debounceDue then (s, [])
  else
    let s1 := s.setButton { s.button with hold := .held }
    if s.platform = .run then (s1.buttonEmit .asserted, []) else (s1, [.arrival 0])

/-- R125: a hold has reached its override expiry. -/
def State.overrideDue (s : State) : Bool :=
  s.button.hold == .held && expired s.milli s.button.pressTick s.button.overrideInForce

/-- R125: the override acts. -/
def State.overrideActs (s : State) : Act :=
  if !s.overrideDue then (s, [])
  else (s.setButton { s.button with hold := .overridden }, if s.platform = .softOff then [] else [.tripCause .override])

/-! ## The indicator -/

/-- R127: the selected pattern. -/
def State.selected (s : State) : Fin 4 := patternOf s.platform

/-- R128 to R130: the indicator at a milli advance: a lead-in ends, or the phase moves, or it wraps and the
working copy takes the buffered copy. -/
def IndicatorUnit.advance (u : IndicatorUnit) (sel : Fin 4) : IndicatorUnit :=
  if u.leadIn then { u with leadIn := false, phase := 0 }
  else if u.phase + 1 < (u.working.get sel).period then { u with phase := u.phase + 1 }
  else { u with phase := 0, working := u.working.set sel.val (u.buffered.get sel) sel.isLt }

/-- R128: the pattern makes the line active at a phase. -/
def IndPattern.active (q : IndPattern) (phase : Nat) : Bool :=
  match q.mode with
  | .off => false
  | .on => true
  | .blink => phase < min q.onTime q.period

/-- R128, R130: the level of IND; true is high. -/
def State.indOut (s : State) : Bool :=
  let q := s.indicator.working.get s.selected
  xor (!s.indicator.leadIn && q.active s.indicator.phase) q.inverted

/-- R126: the indicator after the buffered copy of a pattern is written; the working copy takes it at once
where the pattern is not selected. -/
def IndicatorUnit.write (u : IndicatorUnit) (sel k : Fin 4) (q : IndPattern) : IndicatorUnit :=
  let u1 := { u with buffered := u.buffered.set k.val q k.isLt }
  if k = sel then u1 else { u1 with working := u1.working.set k.val q k.isLt }

end Sys2Proof.Machine
end

