-- ==== Sys2Proof/Machine/Wake.lean ====
section
/-! DEFINITION. The wake unit: arming (R105), wake lines (R106), signal wakes (R107), capture (R110) and the
judgement of an arrival (R111 to R115). -/

namespace Sys2Proof.Machine

open Sys2Proof

/-- Table 11-4: the bit of a rest state in an arm mask. -/
def armBit : PlatformState → Option Nat
  | .suspended => some 0
  | .hibernated => some 1
  | .softOff => some 2
  | .tripped => some 3
  | .run | .checking | .parked | .committing | .waking | .returning | .tripping => none

/-- R105: the source is armed for a rest state. -/
def State.armed (s : State) (n : SourceId) (rest : PlatformState) : Bool :=
  let w := s.wakes.get n
  w.enabled
    && (match armBit rest with | some b => w.arm.getLsbD b | none => false)
    && (match w.needs with | none => true | some d => s.isOn d)

/-- R105: the rest state against which an arrival is tested. -/
def State.testedRest (s : State) : PlatformState :=
  match s.platform with
  | .checking | .parked | .committing => entryRest s.ctx.slot
  | .run | .suspended | .hibernated | .softOff | .waking | .returning | .tripping | .tripped => s.platform

/-- R111, Table 6-1: the effect of an arrival of an enabled source. -/
def State.judgeArrival (s : State) (n : SourceId) : CaptureEffect :=
  match s.platform with
  | .suspended | .hibernated | .softOff | .tripped => if s.armed n s.testedRest then .woke else .none
  | .checking | .parked =>
    if (s.wakes.get n).abortFlag && s.armed n s.testedRest then .aborted else .none
  | .committing => if s.armed n s.testedRest && s.pendingWake.isNone then .pended else .none
  | .run | .waking | .returning | .tripping => .none

/-- R110: a capture record after an arrival at a milli tick in a platform state, with its effect. -/
def CaptureRecord.arrive (c : CaptureRecord) (milli : Tick) (p : PlatformState) (e : CaptureEffect) : CaptureRecord :=
  { captured := true,
    count := if c.captured then satAdd captureCeiling c.count 1 else 1,
    overwritten := c.captured,
    milli := milli,
    platform := some p,
    effect := e }

/-- Replaces a capture record. -/
def State.setCapture (s : State) (n : SourceId) (c : CaptureRecord) : State :=
  { s with captures := s.captures.set n.val c n.isLt }

/-- R110: the capture update of an arrival, with its notice. -/
def State.capture (s : State) (n : SourceId) (e : CaptureEffect) : State :=
  let c := s.captures.get n
  (s.setCapture n (c.arrive s.milli s.platform e)).notify (if c.captured then .captureOverwrite else .wakeCaptured)

/-- R112 to R115: what the judgement hands to the sequencer. -/
def State.handOff (s : State) (n : SourceId) : CaptureEffect → Act
  | .none => (s, [])
  | .woke => s.startExit (.source n)
  | .aborted => s.abort (.wake n)
  | .pended => ({ s with pendingWake := some (.source n) }, [])

/-- R110, R111: an arrival of a source; that of a source not enabled has no effect. -/
def State.arrival (s : State) (n : SourceId) : Act :=
  if (s.wakes.get n).enabled then (s.capture n (s.judgeArrival n)).handOff n (s.judgeArrival n) else (s, [])

/-- R107: a WAKE effect is an arrival at level ASSERTED when the source is bound to SIGNAL. -/
def State.wakeEffect (s : State) (n : SourceId) (l : Level) : Act :=
  if l = .asserted ∧ (s.wakes.get n).binding = .signal then s.arrival n else (s, [])

/-- R107, R141: an entry that carries VETO and WAKE. The veto's abort leaves the platform RETURNING, in which the wake
arrives, and the rollback begins after the arrival (DEDUCED, log 28). -/
def State.vetoWakeEffect (s : State) (n : SourceId) (l : Level) : Act :=
  let a := s.vetoEffect l
  let b := a.1.wakeEffect n l
  (b.1, b.2 ++ a.2)

/-- R106: several arrivals of one edge. Each is captured and judged before the next; the steps of the plan that one
starts, or the rollback that one begins, follow the last of them (DEDUCED, log 30). -/
def State.arrivals (s : State) : List SourceId → Act
  | [] => (s, [])
  | n :: ns =>
    let a := s.arrival n
    let b := a.1.arrivals ns
    (b.1, a.2 ++ b.2)

/-- The binding that names a wake line. -/
def lineBinding : WakeLine → Binding
  | .a => .lineA
  | .b => .lineB

/-- The level of a wake line. -/
def State.line (s : State) : WakeLine → Bool
  | .a => s.wakeA
  | .b => s.wakeB

/-- A wake line takes a level. -/
def State.setLine (s : State) (l : WakeLine) (b : Bool) : State :=
  match l with
  | .a => { s with wakeA := b }
  | .b => { s with wakeB := b }

/-- R106: the sources bound to a line, in ascending number. -/
def State.boundTo (s : State) (l : WakeLine) : List SourceId :=
  (List.finRange 16).filter fun n => (s.wakes.get n).binding == lineBinding l

/-- R106: a line rises; a line already high has no assertion edge (log 10). -/
def State.lineRises (s : State) (l : WakeLine) : Act :=
  if s.line l then (s, []) else (s.setLine l true).arrivals (s.boundTo l)

end Sys2Proof.Machine
end

