-- ==== Sys2Proof/Machine/Configure.lean ====
section
/-! DEFINITION. The configuration unit: the records a read returns (R185, R192), the write of each table, the
commands of table 0 (R186), the checks in their order (R183), and the execution of a request with its
response (R182). -/

namespace Sys2Proof.Machine

open Sys2Proof

/-! ## Indexes -/

/-- An index as a member of a table of `n` records. -/
def recordIndex (n i : Nat) : Option (Fin n) := if h : i < n then some ⟨i, h⟩ else none

/-- R166: the slot and step of a table 2 or 4 index, slot × 32 + step. -/
def stepPlace (i : Nat) : Option (SlotId × Fin 32) :=
  (recordIndex 7 (i / 32)).map fun k => (k, ⟨i % 32, Nat.mod_lt _ (by decide)⟩)

/-! ## Reads (R185) -/

/-- The step record at a table index in one copy of the items. -/
def ConfigSet.stepAt (c : ConfigSet) (k : SlotId) (i : Fin 32) : Step := (c.plans.get k).steps.get i

/-- R126, R120: the record of table 13: the buffered copy, the working copy, the times at index 0. -/
def State.patternFields (s : State) (k : Fin 4) : List Nat :=
  (s.indicator.buffered.get k).fields ++ (s.indicator.working.get k).fields
    ++ (if k = 0 then [s.button.debounce, s.button.override] else [0, 0])

/-- The fields of a readable record other than the part status record, as they stand. -/
def State.recordFields (s : State) (table index : Nat) : Option (List Nat) :=
  match table with
  | 1 => (recordIndex 7 index).map fun k => [(s.staged.plans.get k).count]
  | 2 => (stepPlace index).map fun x => (s.staged.stepAt x.1 x.2).fields
  | 3 => (recordIndex 7 index).map fun k => [(s.active.plans.get k).count]
  | 4 => (stepPlace index).map fun x => (s.active.stepAt x.1 x.2).fields
  | 5 => (recordIndex 10 index).map fun d => (s.staged.domains.get d).fields
  | 6 => (recordIndex 10 index).map fun d => (s.active.domains.get d).fields
  | 7 => (recordIndex 10 index).map fun d => (s.dom d).fields
  | 8 => (recordIndex 10 index).map fun d => (s.dom d).statFields
  | 9 => (recordIndex 64 index).map fun i => (s.signals.get i).fields
  | 10 => (recordIndex 16 index).map fun n => (s.wakes.get n).fields
  | 11 => (recordIndex 16 index).map fun n => (s.captures.get n).fields
  | 12 => if index = 0 then none else (recordIndex 14 (index - 1)).map fun i => (s.agents.get i).fields
  | 13 => (recordIndex 4 index).map fun k => s.patternFields k
  | _ => none

/-- A bit of a byte of the part status record. -/
def bitAt (k : Nat) (b : Bool) : Nat := if b then 2 ^ k else 0

/-- R22: the label of the current step; 0 while no plan runs. -/
def State.currentLabel (s : State) : Nat :=
  match s.currentStep with
  | none => 0
  | some t => t.label.toNat

/-- Table 11-5, byte 16: the apply-pending marks, bit k for item k. -/
def State.pendingByte (s : State) : Nat :=
  ((List.finRange 8).map fun k => bitAt k.val (s.applyPending.get k)).sum

/-- Table 11-5, bytes 17 to 20: two configuration statuses, the even item in bits 7–4. -/
def State.statusPair (s : State) (even odd : ItemId) : Nat :=
  16 * (s.applyStatus.get even).code + (s.applyStatus.get odd).code

/-- Table 11-5, byte 4. -/
def State.markByte (s : State) : Nat :=
  s.ctx.portion.code + bitAt 3 s.pendingWake.isSome + bitAt 4 s.pendingRequest + bitAt 5 s.requestStale
    + bitAt 6 s.up.linkUp + bitAt 7 s.dn.linkUp

/-- R192, Table 11-5: the part status record, each value with its size in bytes. -/
def State.statusValues (s : State) : List (Nat × Nat) :=
  [(1, s.platform.code + 16 * s.requested.code),
   (1, match s.ctx.slot with | none => 255 | some k => k.val),
   (1, s.ctx.index), (1, s.currentLabel),
   (1, s.markByte),
   (1, s.undo.length),
   (1, (abortCode s.lastAbort).1), (1, (abortCode s.lastAbort).2),
   (1, wakeCauseCode s.wakeCause),
   (1, (tripCode s.trip.first).1), (1, (tripCode s.trip.first).2), (1, s.trip.secondary),
   (2, s.notices.flags.toNat), (2, s.notices.enables.toNat),
   (1, s.pendingByte),
   (1, s.statusPair 0 1), (1, s.statusPair 2 3), (1, s.statusPair 4 5), (1, s.statusPair 6 7),
   (2, s.up.errors), (2, s.up.discards), (2, s.dn.errors), (2, s.dn.discards)]

/-- R192: the bytes of the part status record. -/
def State.statusBytes (s : State) : List Byte := s.statusValues.flatMap fun (n, v) => fieldBytes n v

/-- R185: the bytes of a record, when the table may be read and has the index. -/
def State.readBytes (s : State) (table index : Nat) : Option (List Byte) :=
  if table = 14 then if index = 0 then some s.statusBytes else none
  else
    match tableLayout table, s.recordFields table index with
    | some layout, some fields => some (recordBytes layout fields)
    | _, _ => none

/-- R85: a read of table 7 clears the domain's change flag. -/
def State.afterRead (s : State) (table index : Nat) : State :=
  match (if table = 7 then recordIndex 10 index else none) with
  | none => s
  | some d => s.setDom d { s.dom d with change := false }

/-- R183, R185: a CFG_RD is checked and executed. -/
def State.executeRead (s : State) (table index : Nat) : State × CfgStatus × List Byte :=
  if table = 0 ∨ 14 < table then (s, .badTable, [])
  else if !indexInRange table index then (s, .badIndex, [])
  else (s.afterRead table index, .ok, (s.readBytes table index).getD [])

/-! ## Writes of the tables -/

/-- The answer of a table to a write that selects at least one field. -/
abbrev WriteAnswer := State × CfgStatus

/-- A refusal of a write: nothing changes. -/
def State.refuse (s : State) (st : CfgStatus) : WriteAnswer := (s, st)

/-- An accepted write. -/
def accept (s : State) : WriteAnswer := (s, .ok)

/-- R166, table 1: a staged plan header. -/
def State.writeHeader (s : State) (k : SlotId) (sel : List (Option Nat)) : WriteAnswer :=
  let p := s.staged.plans.get k
  match mergeFields [p.count] sel with
  | [n] =>
    if n ≤ 32 then
      accept { s with staged := { s.staged with plans := s.staged.plans.set k.val { p with count := n } k.isLt } }
    else s.refuse .badValue
  | _ => s.refuse .badValue

/-- R166, table 2: a staged plan step. -/
def State.writeStep (s : State) (k : SlotId) (i : Fin 32) (sel : List (Option Nat)) : WriteAnswer :=
  let p := s.staged.plans.get k
  match stepOf (mergeFields (p.steps.get i).fields sel) with
  | some t =>
    accept { s with
      staged := { s.staged with
        plans := s.staged.plans.set k.val { p with steps := p.steps.set i.val t i.isLt } k.isLt } }
  | none => s.refuse .badValue

/-- R166, table 5: a staged domain configuration record. -/
def State.writeDomain (s : State) (d : DomainId) (sel : List (Option Nat)) : WriteAnswer :=
  match domainConfigOf (mergeFields (s.staged.domains.get d).fields sel) with
  | some c => accept { s with staged := { s.staged with domains := s.staged.domains.set d.val c d.isLt } }
  | none => s.refuse .badValue

/-- R87: the runtime record of a domain whose counting enable is written. -/
def DomainRuntime.setCounting (r : DomainRuntime) (b : Bool) : DomainRuntime :=
  { r with counting := b, stats := if b && !r.counting then zeroStats else r.stats }

/-- R87, table 8: the counting enable. -/
def State.writeCounting (s : State) (d : DomainId) (sel : List (Option Nat)) : WriteAnswer :=
  match (sel.getD 0 none).bind boolOf with
  | some b => accept (s.setDom d ((s.dom d).setCounting b))
  | none => s.refuse .badValue

/-- R134: a write changes the key, the in-use field or TRACK. -/
def SignalEntry.resetsLevel (old new : SignalEntry) : Bool :=
  old.port != new.port || old.agent != new.agent || old.signal != new.signal || old.inUse != new.inUse
    || old.track != new.track

/-- R133: the entry would stand in use with the key of another in-use entry. -/
def State.duplicateKey (s : State) (i : Fin 64) (e : SignalEntry) : Bool :=
  e.inUse && (List.finRange 64).any fun j => j != i && (s.signals.get j).hasKey e.port e.agent e.signal

/-- R132 to R134, table 9: a signal-table entry. -/
def State.writeSignal (s : State) (i : Fin 64) (sel : List (Option Nat)) : WriteAnswer :=
  let old := s.signals.get i
  match signalEntryOf old.level (mergeFields old.fields sel) with
  | none => s.refuse .badValue
  | some e =>
    if s.duplicateKey i e then s.refuse .duplicate
    else
      let level := if old.resetsLevel e then .unknown else old.level
      accept { s with signals := s.signals.set i.val { e with level := level } i.isLt }

/-- R103, R104, table 10: a wake-table record; W0 takes only the values it has. -/
def State.writeWake (s : State) (n : SourceId) (sel : List (Option Nat)) : WriteAnswer :=
  if n = 0 then
    if mergeFields wakeRecord0.fields sel = wakeRecord0.fields then accept s else s.refuse .badValue
  else
    match wakeRecordOf (mergeFields (s.wakes.get n).fields sel) with
    | some w => accept { s with wakes := s.wakes.set n.val w n.isLt }
    | none => s.refuse .badValue

/-- R116, table 11: a write clears the capture record, whatever it carries. -/
def State.clearCaptureRecord (s : State) (n : SourceId) : State := s.setCapture n clearCapture

/-- R160, table 12: an agent record; the miss counter takes 0 alone. -/
def State.writeAgent (s : State) (i : Fin 14) (sel : List (Option Nat)) : WriteAnswer :=
  if 0 < (sel.getD 2 none).getD 0 then s.refuse .badValue
  else
    match agentRecordOf (mergeFields (s.agents.get i).fields sel) with
    | some a => accept { s with agents := s.agents.set i.val a i.isLt }
    | none => s.refuse .badValue

/-- R126: the buffered copy a write leaves; none where a selected field is out of its range. -/
def State.writtenPattern (s : State) (k : Fin 4) (sel : List (Option Nat)) : Option IndPattern :=
  match mergeFields (s.indicator.buffered.get k).fields (sel.take 4) with
  | [m, p, a, i] => indPatternOf m p a i
  | _ => none

/-- R120: the times a write leaves; none where they break the range or the order. -/
def State.writtenTimes (s : State) (sel : List (Option Nat)) : Option (Nat × Nat) :=
  let d := (sel.getD 8 none).getD s.button.debounce
  let o := (sel.getD 9 none).getD s.button.override
  if buttonTimesWf d o then some (d, o) else none

/-- A write selects one of the four buffered fields of a pattern. -/
def selectsPattern (sel : List (Option Nat)) : Bool := (sel.take 4).any Option.isSome

/-- A write selects one of the two times. -/
def selectsTimes (sel : List (Option Nat)) : Bool := (sel.drop 8).any Option.isSome

/-- R126: the state after a write of a pattern's buffered copy. -/
def State.setPattern (s : State) (k : Fin 4) (q : IndPattern) : State :=
  { s with indicator := s.indicator.write s.selected k q }

/-- R120: the state after a write of the button's times. -/
def State.setTimes (s : State) (x : Nat × Nat) : State :=
  s.setButton { s.button with debounce := x.1, override := x.2 }

/-- R120, R126, table 13: a pattern record, all or nothing; the times stand at index 0 alone. -/
def State.writePattern (s : State) (k : Fin 4) (sel : List (Option Nat)) : WriteAnswer :=
  match selectsPattern sel, s.writtenPattern k sel, selectsTimes sel, s.writtenTimes sel with
  | true, none, _, _ => s.refuse .badValue
  | _, _, true, none => s.refuse .badValue
  | pat, q, times, x =>
    if times && k != 0 then s.refuse .badValue
    else
      let s1 := if pat then (match q with | some q => s.setPattern k q | none => s) else s
      accept (if times then (match x with | some x => s1.setTimes x | none => s1) else s1)

/-! ## Commands (R186) -/

/-- R186: the selection of an item mask. -/
def itemSelection (arg : Nat) (k : ItemId) : Bool := arg.testBit k.val

/-- R186, code 7: the port counters and the miss counters become 0. -/
def State.clearCounters (s : State) : State :=
  { s with
    up := { s.up with errors := 0, discards := 0 },
    dn := { s.dn with errors := 0, discards := 0 },
    agents := Vector.ofFn fun i => { s.agents.get i with misses := 0 } }

/-- R186: a command of table 0 with its argument. -/
def State.command (s : State) (code arg : Nat) : WriteAnswer :=
  match code with
  | 1 =>
    if 256 ≤ arg then s.refuse .badValue
    else if s.platform.planRunning then s.refuse .busy
    else accept (s.applySelected (itemSelection arg))
  | 2 => if 256 ≤ arg then s.refuse .badValue else accept (s.markItems (itemSelection arg))
  | 3 =>
    if 32768 ≤ arg then s.refuse .badValue
    else accept { s with notices := s.notices.clear (BitVec.ofNat 15 arg) }
  | 4 =>
    if 32768 ≤ arg then s.refuse .badValue
    else accept { s with notices := s.notices.setEnables (BitVec.ofNat 15 arg) }
  | 5 => accept s.restoreStaged
  | 6 => accept { s with trip := { first := none, secondary := 0 } }
  | 7 => accept s.clearCounters
  | _ => s.refuse .badIndex

/-! ## Execution (R182, R183) -/

/-- A write that passed the checks on its table, index and mask, and selects at least one field. -/
def State.writeTable (s : State) (table index : Nat) (sel : List (Option Nat)) : WriteAnswer :=
  match table with
  | 0 => s.command index ((sel.getD 0 none).getD 0)
  | 1 => (match recordIndex 7 index with | some k => s.writeHeader k sel | none => s.refuse .badIndex)
  | 2 => (match stepPlace index with | some x => s.writeStep x.1 x.2 sel | none => s.refuse .badIndex)
  | 5 => (match recordIndex 10 index with | some d => s.writeDomain d sel | none => s.refuse .badIndex)
  | 8 => (match recordIndex 10 index with | some d => s.writeCounting d sel | none => s.refuse .badIndex)
  | 9 => (match recordIndex 64 index with | some i => s.writeSignal i sel | none => s.refuse .badIndex)
  | 10 => (match recordIndex 16 index with | some n => s.writeWake n sel | none => s.refuse .badIndex)
  | 12 => (match recordIndex 14 (index - 1) with | some i => s.writeAgent i sel | none => s.refuse .badIndex)
  | 13 => (match recordIndex 4 index with | some k => s.writePattern k sel | none => s.refuse .badIndex)
  | _ => s.refuse .readOnly

/-- R184: the fields that a mask selects from the layout of a table, with their values. -/
def selection (table : Nat) (mask : BitVec 16) (values : List Byte) : Option (List (Option Nat)) :=
  (tableLayout table).bind fun layout => selectFields mask 0 layout values

/-- R183, R184: a CFG_WR is checked and executed. -/
def State.executeWrite (s : State) (table index : Nat) (mask : BitVec 16) (values : List Byte) : WriteAnswer :=
  if 14 < table then s.refuse .badTable
  else if !indexInRange table index then s.refuse .badIndex
  else if readOnlyTable table then s.refuse .readOnly
  else if table = 11 then
    (match recordIndex 16 index with | some n => accept (s.clearCaptureRecord n) | none => s.refuse .badIndex)
  else
    match selection table mask values with
    | none => s.refuse .badValue
    | some sel => if mask = 0 then accept s else s.writeTable table index sel

/-- R184: the two-byte mask of a CFG_WR body. Its order of bytes is that of a field, most significant byte first
(DEDUCED, log 29). -/
def Frame.mask (f : Frame) : BitVec 16 := f.body.getD 2 0 ++ f.body.getD 3 0

/-- R182: a request is executed, and its response is built. -/
def State.execute (s : State) (f : Frame) : State × Frame :=
  let table := (f.body.getD 0 0).toNat
  let index := (f.body.getD 1 0).toNat
  match f.kind with
  | .cfgWr =>
    let (s1, st) := s.executeWrite table index f.mask (f.body.drop 4)
    (s1, cfgResponse f st [])
  | .cfgRd | .sig | .xfer | .xferReply | .cfgRsp | .note =>
    let (s1, st, record) := s.executeRead table index
    (s1, cfgResponse f st record)

/-- R182, R154: the response goes to UP-RSP, or is discarded at the DOWN port. -/
def State.respond (s : State) (r : Frame) : State :=
  if s.up.linkUp then s.enqueue .upRsp r else s.discard .up 1

/-- R182: the unit may take the head of its input queue: UP is DOWN, or UP-RSP has a free place. -/
def State.mayServe (s : State) : Bool := !s.up.linkUp || s.hasPlace .upRsp

/-- R182: the head of the input queue is taken, executed and answered in one event. -/
def State.serveRequest (s : State) : State :=
  match s.queues.cfgIn with
  | [] => s
  | f :: rest =>
    if s.mayServe then
      let (s1, r) := (s.setQueue .cfgIn rest).execute f
      s1.respond r
    else s

/-- A request of the hub reaches the unit (DESIGN CHOICE, log 8). One of an illegal body length is malformed: an UP
port drops and counts it (R149, R188), and a DOWN port receives nothing (log 11). One that is the head of the input
queue is executed. Any other comes through the UP head: a head that holds a frame makes it an overrun (R150), and
never lets it pass (R157). With the head empty it joins the queue and the queue's head is executed where R182 allows
it; with the queue full, the queue's head is executed first where that is allowed, and otherwise the request is held
at the UP head. -/
def State.offerRequest (s : State) (f : Frame) : Act :=
  if !f.wf then (if s.up.linkUp then s.linkError .up else s, [])
  else if s.queues.cfgIn.head? = some f then (s, [.serve])
  else if s.up.head.isSome then (s.linkError .up, [])
  else if s.hasPlace .cfgIn then (s.enqueue .cfgIn f, [.serve])
  else if s.mayServe then (s, [.serve, .carry (.place .cfgIn f) f])
  else (s.setPort .up { s.up with head := some f }, [])

end Sys2Proof.Machine
end

