-- ==== Sys2Proof/Machine/Link.lean ====
section
/-! DEFINITION. The link ports and the classifier: transmitters (R155, R156), the agents (R158), the fate of a
frame (R137, R151, R152), judging and taking (R138 to R142, R157, R159), receiving (R149, R150), link events
(R161, R162), and the owed NOTE (R191). -/

namespace Sys2Proof.Machine

open Sys2Proof

/-! ## Transmitters (R155, R156) -/

/-- R155: a transmitter may choose: its port is UP, it is idle, and the partner's ready is asserted. -/
def PortState.canChoose (x : PortState) : Bool := x.linkUp && x.partnerReady && x.sending.isNone

/-- R155, R156: a transmitter that may choose takes the head of its first non-empty queue. -/
def State.chooseFrame (s : State) (p : Port) : State :=
  if (s.port p).canChoose then
    match (txQueues p).find? fun q => !(s.queue q).isEmpty with
    | none => s
    | some q =>
      match s.queue q with
      | [] => s
      | f :: rest => (s.setQueue q rest).setPort p { s.port p with sending := some (q, f) }
  else s

/-! ## Agents (R158 to R160) -/

/-- The record of an agent 1–14 in the agent table. -/
def agentIndex (a : BitVec 4) : Option (Fin 14) :=
  if h : 1 ≤ a.toNat ∧ a.toNat ≤ 14 then some ⟨a.toNat - 1, by omega⟩ else none

/-- R158: the agent is present and powered. -/
def State.agentPowered (s : State) (a : BitVec 4) : Bool :=
  match agentIndex a with
  | none => false
  | some i =>
    (s.agents.get i).present && s.dn.linkUp
      && (match (s.agents.get i).powering with | none => true | some d => s.isOn d)

/-- R159: a miss is counted for an agent, and AGENT_ABSENT is set. -/
def State.countMiss (s : State) (a : BitVec 4) : State :=
  match agentIndex a with
  | none => s
  | some i =>
    let r := s.agents.get i
    { s with agents := s.agents.set i.val { r with misses := satAdd missCeiling r.misses 1 } i.isLt }.notify .agentAbsent

/-! ## Fates (R137, R151, R152) -/

/-- R136: the action under which a SIG frame goes; an unmatched frame goes under PASS. -/
def State.sigAction (s : State) (p : Port) (f : Frame) : SigAction :=
  match s.lookup p f.source f.signal with
  | none => .pass
  | some e => e.action

/-- R142: a SIG frame as it is forwarded, renumbered under MAP. -/
def State.forwarded (s : State) (p : Port) (f : Frame) : Frame :=
  match s.lookup p f.source f.signal with
  | none => f
  | some e => if e.action = .map then f.withSignal e.newNumber else f

/-- The destination is one of the downstream agents 1–14. -/
def Frame.toAgent (f : Frame) : Bool := 1 ≤ f.dest.toNat && f.dest.toNat ≤ 14

/-- R137: the fate of a SIG frame. -/
def State.sigFate (s : State) (p : Port) (f : Frame) : Fate :=
  if s.sigAction p f = .drop then .consume
  else
    match p with
    | .up =>
      if f.toAgent then
        if s.agentPowered f.dest then .place .dnFwd (s.forwarded .up f) else .miss f.dest
      else .consume
    | .dn =>
      if f.dest = 0 then
        if s.up.linkUp then .place .upFwdSig (s.forwarded .dn f) else .discardUp
      else .consume

/-- R151: the fate of a frame at the UP head. -/
def State.upFate (s : State) (f : Frame) : Fate :=
  match f.kind with
  | .sig => s.sigFate .up f
  | .xfer =>
    if f.toAgent then
      if s.agentPowered f.dest then .place .dnFwd f
      else if f.replyWanted then .noAgent f.dest else .miss f.dest
    else .consume
  | .xferReply =>
    if f.toAgent then
      if s.agentPowered f.dest then .place .dnFwd f else .miss f.dest
    else .consume
  | .cfgWr | .cfgRd => if f.dest = 15 then .place .cfgIn f else .consume
  | .cfgRsp | .note => .consume

/-- R152: the fate of a frame at the DN head. -/
def State.dnFate (s : State) (f : Frame) : Fate :=
  match f.kind with
  | .sig => s.sigFate .dn f
  | .xfer | .xferReply =>
    if f.dest = 0 then
      if s.up.linkUp then .place .upBulk f else .discardUp
    else .consume
  | .cfgWr | .cfgRd => if f.dest = 15 then .deny else .consume
  | .cfgRsp | .note => .consume

/-- The fate of a frame at a receive head, judged now. -/
def State.fate (s : State) (p : Port) (f : Frame) : Fate :=
  match p with
  | .up => s.upFate f
  | .dn => s.dnFate f

/-- The queue in which a fate needs a place. -/
def Fate.queue : Fate → Option QueueId
  | .consume | .miss _ | .discardUp => none
  | .noAgent _ => some .upRsp
  | .place q _ => some q
  | .deny => some .dnOwn

/-- R150: the fate needs no place, or its place is free. -/
def State.fits (s : State) (fate : Fate) : Bool :=
  match fate.queue with
  | none => true
  | some q => s.hasPlace q

/-- R164: an emission of the sequencer waits for a place in DN-OWN. -/
def Wait.wantsDnOwn : Wait → Bool
  | .space .dn _ _ | .rollbackSpace .dn _ _ => true
  | _ => false

/-- The place this fate needs opened in the event that now ends, and another producer was waiting for it: the
configuration or the notice unit for UP-RSP (R182), an emission of the sequencer for DN-OWN (R164). Which of them
is taken first the spec leaves open, and the order of commands decides it (log 7). -/
def State.contended (s : State) (b : Before) (fate : Fate) : Bool :=
  match fate.queue with
  | some .upRsp => b.rspFull && (b.owed || !s.queues.cfgIn.isEmpty)
  | some .dnOwn => b.ownFull && s.ctx.wait.wantsDnOwn
  | _ => false

/-! ## Taking a frame (R138 to R142) -/

/-- R141: the reports that the flags of a matching entry make, in their order. VETO and WAKE of one entry, which has
then no RELEASE (R132), are reported together (R107). -/
def flagReports (e : SignalEntry) (l : Level) : List Work :=
  (if e.request.isSome then [.requestEffect] else [])
    ++ (if e.trip then [.tripEffect l] else [])
    ++ (if e.veto && e.wake.isNone then [.vetoEffect l] else [])
    ++ (if e.release then [.releaseEffect l] else [])
    ++ (match e.wake with
      | some n => if e.veto then [.vetoWakeEffect n l] else [.wakeEffect n l]
      | none => [])

/-- R140, R141: what a taken SIG frame reports before it is forwarded or consumed. -/
def State.sigReports (s : State) (p : Port) (f : Frame) : List Work :=
  match s.lookup p f.source f.signal with
  | none => []
  | some e =>
    (if e.track then [.levelReport p f.source f.signal f.level] else []) ++ flagReports e f.level

/-- The receive head of a port is emptied. -/
def State.emptyHead (s : State) (p : Port) : State := s.setPort p { s.port p with head := none }

/-- R138 to R142: a frame is taken from its head with the fate judged now: its level is written, its effects
are reported, and its fate is carried out after them. -/
def State.takeHead (s : State) (p : Port) (f : Frame) (fate : Fate) : Act :=
  if f.kind = .sig then
    ((s.emptyHead p).writeLevel p f.source f.signal f.level, s.sigReports p f ++ [.carry fate f])
  else (s.emptyHead p, [.carry fate f])

/-- R142, R151, R152, R154, R159: a taken frame's fate is carried out. -/
def State.carryFate (s : State) (fate : Fate) (f : Frame) : State :=
  match fate with
  | .consume => s
  | .miss a => s.countMiss a
  | .noAgent a => (s.countMiss a).enqueue .upRsp (noAgentReply f a)
  | .discardUp => s.discard .up 1
  | .place q g => s.enqueue q g
  | .deny => s.enqueue .dnOwn (deniedReply f)

/-- R150, R157: the frame at a head is judged, and taken if it is consumed or finds its place free. -/
def State.judgeHead (s : State) (p : Port) : Act :=
  match (s.port p).head with
  | none => (s, [])
  | some f => if s.fits (s.fate p f) then s.takeHead p f (s.fate p f) else (s, [])

/-- The frame at a receive head may be taken: its fate needs no place, or finds it free. -/
def State.headFits (s : State) (p : Port) : Bool :=
  match (s.port p).head with
  | none => false
  | some f => s.fits (s.fate p f)

/-- R157: the frame at a receive head is taken at the end of the event. -/
def State.heldReady (s : State) (b : Before) (p : Port) : Bool :=
  match (s.port p).head with
  | none => false
  | some f => s.fits (s.fate p f) && !s.contended b (s.fate p f)

/-! ## The owed NOTE (R191) -/

/-- R191: an owed NOTE can be queued now. -/
def State.noteReady (s : State) : Bool := s.notices.owed && s.up.linkUp && s.hasPlace .upRsp

/-- R191: the NOTE is built and queued, and the owed mark is cleared. -/
def State.queueNote (s : State) : State :=
  { s.enqueue .upRsp s.noteFrame with notices := { s.notices with owed := false } }

/-- R182: another producer than the notice unit waits for a place in UP-RSP. -/
def State.rspAwaited (s : State) : Bool :=
  !s.queues.cfgIn.isEmpty
    || (match s.up.head with
        | none => false
        | some f => (s.fate .up f).queue == some .upRsp)

/-- R191: the owed NOTE is queued at the end of the event: the event set its mark, or no other producer waits for
the place it finds. -/
def State.noteOffered (s : State) (b : Before) : Bool := s.noteReady && (!b.owed || !s.rspAwaited)

/-- R191: the test of the notice unit. -/
def State.tryNote (s : State) : State := if s.noteReady then s.queueNote else s

/-! ## The end of an event (R155, R157, R191) -/

/-- Both transmitters choose if they may. -/
def State.chooseBoth (s : State) : State := (s.chooseFrame .up).chooseFrame .dn

/-- The end of an event (log 6): the transmitters choose; a held head that may be taken is taken, UP first, and
the event ends anew; the NOTE is queued after every other placement, and the event ends anew. -/
def State.settle (s : State) (b : Before) : Act :=
  let s1 := s.chooseBoth
  if s1.heldReady b .up then (s1, [.judge .up, .settle b])
  else if s1.heldReady b .dn then (s1, [.judge .dn, .settle b])
  else if s1.noteOffered b then (s1.queueNote, [.settle b])
  else (s1, [])

/-! ## Receiving (R149, R150) -/

/-- R149, R150: the line receiver ends a sequence on a port. A DOWN port receives nothing (R161, log 11). -/
def State.receive (s : State) (p : Port) (bytes : List Byte) : Act :=
  if !(s.port p).linkUp then (s, [])
  else
    match receivedFrame p bytes with
    | none => (s.linkError p, [])
    | some f =>
      if (s.port p).head.isSome then (s.linkError p, [])
      else (s.setPort p { s.port p with head := some f }, [.judge p])

/-! ## Link events (R161, R162) and the partner's side (R155) -/

/-- R161: the number of frames in the transmit queues of a port and in its transmitter. -/
def State.flushCount (s : State) (p : Port) : Nat :=
  ((txQueues p).map fun q => (s.queue q).length).sum + (if (s.port p).sending.isSome then 1 else 0)

/-- R161: every transmit queue of the port is emptied. -/
def State.flushQueues (s : State) (p : Port) : State :=
  (txQueues p).foldl (fun t q => t.setQueue q []) s

/-- R161: a port in state UP goes DOWN. -/
def State.linkGoesDown (s : State) (p : Port) : Act :=
  if !(s.port p).linkUp then (s, [])
  else
    let s1 := (s.flushQueues p).setPort p { s.port p with linkUp := false, head := none, sending := none }
    (s1.discard p (s.flushCount p), [.portDown p])

/-- R162: a port in state DOWN goes UP. -/
def State.linkGoesUp (s : State) (p : Port) : State :=
  s.setPort p { s.port p with linkUp := true }

/-- R155: the partner's ready takes a level. -/
def State.setPartnerReady (s : State) (p : Port) (b : Bool) : State :=
  s.setPort p { s.port p with partnerReady := b }

/-- R155: the transmission under way ends, and the transmitter becomes idle. -/
def State.endTransmission (s : State) (p : Port) : State :=
  s.setPort p { s.port p with sending := none }

end Sys2Proof.Machine
end

