-- ==== Sys2Proof/Machine/Engine.lean ====
section
/-! DEFINITION. One event as a whole: each piece of work, done one after another with the work it sets off
done before the rest, and the end of the event (00_scope.md, Events and Order; R24, R79, R141, R182). -/

namespace Sys2Proof.Machine

open Sys2Proof

/-- The state after one piece of work, with the work it sets off. -/
def micro : Work → State → Act
  | .start i, s => s.startStep i
  | .rollback, s => s.nextRecord
  | .onReport d, s => s.takeOn d
  | .offReport d, s => s.takeOff d
  | .faultReport d c, s => s.takeFault d c
  | .overrangeReport d, s => s.takeOverrange d
  | .holdOver d, s => s.holdOver d
  | .tripCause c, s => s.takeTrip c
  | .arrival n, s => s.arrival n
  | .levelReport p a g l, s => s.levelReport p a g l
  | .requestEffect, s => s.requestEffect
  | .tripEffect l, s => s.tripEffect l
  | .vetoEffect l, s => s.vetoEffect l
  | .releaseEffect l, s => s.releaseEffect l
  | .wakeEffect n l, s => s.wakeEffect n l
  | .vetoWakeEffect n l, s => s.vetoWakeEffect n l
  | .carry fate f, s => (s.carryFate fate f, [])
  | .judge p, s => s.judgeHead p
  | .portDown p, s => s.portWentDown p
  | .serve, s => (s.serveRequest, [])
  | .settle b, s => s.settle b

/-- The work is done to its end, at most `n` pieces of it, what one piece sets off before the rest: each report is
taken to its end before the next (R141). The arrivals of one edge, and a WAKE that follows a VETO, are one piece each
and come before the steps or the rollback they set off (R106, R107; logs 28 and 30). -/
def quiesce : Nat → List Work → State → Option State
  | _, [], s => some s
  | 0, _ :: _, _ => none
  | n + 1, w :: ws, s => quiesce n ((micro w s).2 ++ ws) (micro w s).1

/-- An event that has left this state with this work; `b` is what stood before it. -/
def finish (b : Before) (a : Act) : Host.Outcome State Fault Refusal :=
  match quiesce Config.chainFuel (a.2 ++ [.settle b]) a.1 with
  | some s => .next s
  | none => .fault .chainOverrun

/-- An event taken in this state. -/
def State.event (s : State) (a : Act) : Host.Outcome State Fault Refusal := finish s.before a

end Sys2Proof.Machine
end

