-- ==== Sys2Proof/Machine/BoardEvents.lean ====
section
/-! DEFINITION. The meanings of the board's events: WAKE_LINE_ASSERTION, WAKE_LINE_FALLING_EDGE, PRESS_EDGE,
RELEASE, DEBOUNCE_EXPIRY, OVERRIDE_EXPIRY, INDICATOR_PHASE_ADVANCE. -/

namespace Sys2Proof.Machine

open Sys2Proof

/-- WAKE_LINE_ASSERTION (R106). -/
def execWakeLineAssertion (l : WakeLine) (s : State) : Host.Outcome State Fault Refusal := s.event (s.lineRises l)

/-- WAKE_LINE_FALLING_EDGE (R106): no arrival; the line's next rise is an assertion edge. -/
def execWakeLineFallingEdge (l : WakeLine) (s : State) : Host.Outcome State Fault Refusal := .next (s.setLine l false)

/-- PRESS_EDGE (R121). -/
def execPressEdge (s : State) : Host.Outcome State Fault Refusal := .next s.buttonFalls

/-- RELEASE (R121, R124). -/
def execRelease (s : State) : Host.Outcome State Fault Refusal := s.event (s.buttonRises, [])

/-- DEBOUNCE_EXPIRY (R122), where the debounce time has run out (log 3). -/
def execDebounceExpiry (s : State) : Host.Outcome State Fault Refusal := s.event s.recognize

/-- OVERRIDE_EXPIRY (R125), where the override time has run out (log 3). -/
def execOverrideExpiry (s : State) : Host.Outcome State Fault Refusal := s.event s.overrideActs

/-- INDICATOR_PHASE_ADVANCE (R128 to R130): the indicator at an advance of the milli counter. -/
def execIndicatorPhaseAdvance (s : State) : Host.Outcome State Fault Refusal :=
  .next { s with indicator := s.indicator.advance s.selected }

end Sys2Proof.Machine
end

