-- ==== Sys2Proof/Machine/Commands.lean ====
section
/-! DEFINITION. The meanings of the requests firmware sends: the seven commands of table 0, the writes of the
tables, and reads. Each offers its CFG frame to the configuration unit (R182, log 8). -/

namespace Sys2Proof.Machine

open Sys2Proof

/-- The table id of a staged table. -/
def stagedTableId : StagedTable → Byte
  | .planHeader => 1
  | .planStep => 2
  | .domainConfig => 5

/-- R182: a request of the hub reaches the configuration unit. -/
def State.request (s : State) (f : Frame) : Host.Outcome State Fault Refusal := s.event (s.offerRequest f)

/-- APPLY_NOW (R171). -/
def execApplyNow (tag : BitVec 4) (arg : BitVec 16) (s : State) : Host.Outcome State Fault Refusal :=
  s.request (cfgCommand tag 1 arg)

/-- APPLY_AT_REST (R172). -/
def execApplyAtRest (tag : BitVec 4) (arg : BitVec 16) (s : State) : Host.Outcome State Fault Refusal :=
  s.request (cfgCommand tag 2 arg)

/-- CLEAR_NOTICES (R186). -/
def execClearNotices (tag : BitVec 4) (arg : BitVec 16) (s : State) : Host.Outcome State Fault Refusal :=
  s.request (cfgCommand tag 3 arg)

/-- SET_NOTICE_ENABLE (R186). -/
def execSetNoticeEnable (tag : BitVec 4) (arg : BitVec 16) (s : State) : Host.Outcome State Fault Refusal :=
  s.request (cfgCommand tag 4 arg)

/-- RESTORE_STAGED (R176). -/
def execRestoreStaged (tag : BitVec 4) (arg : BitVec 16) (s : State) : Host.Outcome State Fault Refusal :=
  s.request (cfgCommand tag 5 arg)

/-- CLEAR_TRIP_RECORD (R56). -/
def execClearTripRecord (tag : BitVec 4) (arg : BitVec 16) (s : State) : Host.Outcome State Fault Refusal :=
  s.request (cfgCommand tag 6 arg)

/-- CLEAR_COUNTERS (R186). -/
def execClearCounters (tag : BitVec 4) (arg : BitVec 16) (s : State) : Host.Outcome State Fault Refusal :=
  s.request (cfgCommand tag 7 arg)

/-- STAGED_WRITE (R166): tables 1, 2 and 5. -/
def execStagedWrite (tag : BitVec 4) (table : StagedTable) (index : Byte) (mask : BitVec 16) (values : List Byte)
    (s : State) : Host.Outcome State Fault Refusal :=
  s.request (cfgWrite tag (stagedTableId table) index mask values)

/-- SIGNAL_TABLE_WRITE (R132 to R134): table 9. -/
def execSignalTableWrite (tag : BitVec 4) (index : Byte) (mask : BitVec 16) (values : List Byte) (s : State) :
    Host.Outcome State Fault Refusal :=
  s.request (cfgWrite tag 9 index mask values)

/-- WAKE_TABLE_WRITE (R103, R104): table 10. -/
def execWakeTableWrite (tag : BitVec 4) (index : Byte) (mask : BitVec 16) (values : List Byte) (s : State) :
    Host.Outcome State Fault Refusal :=
  s.request (cfgWrite tag 10 index mask values)

/-- CAPTURE_RECORD_CLEAR (R116): table 11. -/
def execCaptureRecordClear (tag : BitVec 4) (index : Byte) (mask : BitVec 16) (values : List Byte) (s : State) :
    Host.Outcome State Fault Refusal :=
  s.request (cfgWrite tag 11 index mask values)

/-- AGENT_TABLE_WRITE (R160): table 12. -/
def execAgentTableWrite (tag : BitVec 4) (index : Byte) (mask : BitVec 16) (values : List Byte) (s : State) :
    Host.Outcome State Fault Refusal :=
  s.request (cfgWrite tag 12 index mask values)

/-- COUNTING_ENABLE_WRITE (R87): table 8. -/
def execCountingEnableWrite (tag : BitVec 4) (index : Byte) (mask : BitVec 16) (values : List Byte) (s : State) :
    Host.Outcome State Fault Refusal :=
  s.request (cfgWrite tag 8 index mask values)

/-- INDICATOR_PATTERN_WRITE (R126): table 13. -/
def execIndicatorPatternWrite (tag : BitVec 4) (index : Byte) (mask : BitVec 16) (values : List Byte) (s : State) :
    Host.Outcome State Fault Refusal :=
  s.request (cfgWrite tag 13 index mask values)

/-- BUTTON_TIMES_WRITE (R120): table 13, fields 8 and 9. -/
def execButtonTimesWrite (tag : BitVec 4) (index : Byte) (mask : BitVec 16) (values : List Byte) (s : State) :
    Host.Outcome State Fault Refusal :=
  s.request (cfgWrite tag 13 index mask values)

/-- DOMAIN_STATUS_READ (R85, R185): the table's one row for a CFG_RD (log 9). -/
def execDomainStatusRead (tag : BitVec 4) (table index : Byte) (s : State) : Host.Outcome State Fault Refusal :=
  s.request (cfgRead tag table index)

/-- CFG_WR (R184): a write of any table by its id. -/
def execCfgWr (tag : BitVec 4) (table index : Byte) (mask : BitVec 16) (values : List Byte) (s : State) :
    Host.Outcome State Fault Refusal :=
  s.request (cfgWrite tag table index mask values)

end Sys2Proof.Machine
end

