-- ==== Sys2Proof/Machine/DomainEvents.lean ====
section
/-! DEFINITION. The meanings of the domain controller's events: PG_RISE, PG_FALL, HOLD_OFF_EXPIRY,
OVERRANGE_EXPIRY. -/

namespace Sys2Proof.Machine

open Sys2Proof

/-- PG_RISE (R71, R81). -/
def execPgRise (d : DomainId) (s : State) : Host.Outcome State Fault Refusal := s.event (s.pgRise d)

/-- PG_FALL (R72, R73). -/
def execPgFall (d : DomainId) (s : State) : Host.Outcome State Fault Refusal := s.event (s.pgFall d)

/-- HOLD_OFF_EXPIRY (R74), where the hold-off has run out (R90, log 3). -/
def execHoldOffExpiry (d : DomainId) (s : State) : Host.Outcome State Fault Refusal := s.event (s.holdExpiry d)

/-- OVERRANGE_EXPIRY (R75, R96), where the ramp has reached 65,535 fine ticks (log 3). -/
def execOverrangeExpiry (d : DomainId) (s : State) : Host.Outcome State Fault Refusal :=
  s.event (s.overrangeExpiry d)

end Sys2Proof.Machine
end

