-- ==== Sys2Proof/Machine/LinkEvents.lean ====
section
/-! DEFINITION. The meanings of the link events: LINK_UP, LINK_DOWN, FRAME_RECEIVED, FRAME_TAKEN,
PARTNER_READY_ASSERTED, PARTNER_READY_DEASSERTED, TRANSMISSION_END, NOTE_QUEUED. -/

namespace Sys2Proof.Machine

open Sys2Proof

/-- LINK_UP (R162). In state UP it has no effect (R146). A LINK_UP of UP is a test of the notice unit (R191): it
offers the NOTE as the event that sets the mark does. -/
def execLinkUp (p : Port) (s : State) : Host.Outcome State Fault Refusal :=
  if (s.port p).linkUp then .next s
  else finish { s.before with owed := p == .dn && s.notices.owed } (s.linkGoesUp p, [])

/-- LINK_DOWN (R161). In state DOWN it has no effect (R146). -/
def execLinkDown (p : Port) (s : State) : Host.Outcome State Fault Refusal :=
  if (s.port p).linkUp then s.event (s.linkGoesDown p) else .next s

/-- FRAME_RECEIVED (R149, R150): the port checks a whole sequence; a good frame is judged at once. -/
def execFrameReceived (p : Port) (bytes : List Byte) (s : State) : Host.Outcome State Fault Refusal :=
  s.event (s.receive p bytes)

/-- FRAME_TAKEN (R157): the frame at the head is judged, and taken where the judgement allows it. -/
def execFrameTaken (p : Port) (s : State) : Host.Outcome State Fault Refusal :=
  s.event (s, [.judge p])

/-- PARTNER_READY_ASSERTED (R155). -/
def execPartnerReadyAsserted (p : Port) (s : State) : Host.Outcome State Fault Refusal :=
  s.event (s.setPartnerReady p true, [])

/-- PARTNER_READY_DEASSERTED (R155): it bears on the next choice alone. -/
def execPartnerReadyDeasserted (p : Port) (s : State) : Host.Outcome State Fault Refusal :=
  s.event (s.setPartnerReady p false, [])

/-- TRANSMISSION_END (R155): the transmitter becomes idle and chooses again. A SYNC step that this drains completes
in SYNC_COMPLETE, an event of its own (R33; log 27). -/
def execTransmissionEnd (p : Port) (s : State) : Host.Outcome State Fault Refusal :=
  s.event (s.endTransmission p, [])

/-- NOTE_QUEUED (R191): the notice unit takes a free place of UP-RSP for the owed NOTE. -/
def execNoteQueued (s : State) : Host.Outcome State Fault Refusal :=
  s.event (s.tryNote, [])

end Sys2Proof.Machine
end

