-- ==== Sys2Proof/Machine/Reset.lean ====
section
/-! DEFINITION. The meaning of POWER_ON_RESET (R19, R20, R65, R82, R118, R119, R146, R189). -/

namespace Sys2Proof.Machine

open Sys2Proof

/-- R65, R82: a domain right after power-on reset: a pinned domain with no parent is RISING, or ON where its
power-good reads high; every other domain is OFF. No flag is set by it. -/
def poweredDomain (pg : BitVec 10) (d : DomainId) : DomainRuntime :=
  let c := romDomains.get d
  let r := resetDomain (pg.getLsbD d.val)
  if c.present && c.pinned && c.parent.isNone then
    { r with state := if pg.getLsbD d.val then .on else .rising }
  else r

/-- R19: every block at its power-on values, with the sampled strap and input levels. The commands that wait
are outside the block and keep their place. -/
def State.powerOn (s : State) (strap : Strap) (wakeA wakeB buttonLow : Bool) (pg : BitVec 10) : State :=
  { State.reset with
    domains := Vector.ofFn (poweredDomain pg),
    wakeA := wakeA,
    wakeB := wakeB,
    button := resetButton buttonLow,
    rpol := strap,
    pending := s.pending }

/-- POWER_ON_RESET (R19). Under AUTO_ON plan 5 starts within the reset (R20). -/
def execPowerOnReset (strap : Strap) (wakeA wakeB buttonLow : Bool) (pg : BitVec 10) (s : State) :
    Host.Outcome State Fault Refusal :=
  let s1 := s.powerOn strap wakeA wakeB buttonLow pg
  s1.event (match strap with
    | .autoOn => s1.startExit .powerRestore
    | .stayOff => (s1, []))

end Sys2Proof.Machine
end

