-- ==== Sys2Proof/Machine/SequencerEvents.lean ====
section
/-! DEFINITION. The meanings of the sequencer's own events: EMIT_FRAME_PLACED, SYNC_COMPLETE,
ROLLBACK_SIGNAL_PLACED, BUDGET_EXPIRY, PARK_LIMIT, ROLLBACK_WAIT_EXPIRY. Each acts only where its own condition
holds; otherwise it finds nothing to act on (R26, R90, log 3). -/

namespace Sys2Proof.Machine

open Sys2Proof

/-- R25: the wait is that of a step other than PARK. -/
def Wait.ofStep : Wait → Bool
  | .enable _ | .good _ | .low _ | .delay | .space _ _ _ | .drain _ | .level _ _ _ _ => true
  | .idle | .pinned | .release | .rollbackEnable _ | .rollbackGood _ | .rollbackLow _ | .rollbackSpace _ _ _ => false

/-- R50 to R52: the wait is that of a rollback record under a budget. -/
def Wait.ofRecord : Wait → Bool
  | .rollbackGood _ | .rollbackLow _ | .rollbackSpace _ _ _ => true
  | .idle | .pinned | .enable _ | .good _ | .low _ | .delay | .space _ _ _ | .drain _ | .level _ _ _ _ | .release
  | .rollbackEnable _ => false

/-- The budget of a wait of this kind has run out: the wait ends. -/
def State.expireIf (s : State) (kind : Wait → Bool) : Act :=
  if kind s.ctx.wait && s.budgetDue then s.expireWait else (s, [])

/-- EMIT_FRAME_PLACED (R32). -/
def execEmitFramePlaced (s : State) : Host.Outcome State Fault Refusal := s.event s.emitPlaced

/-- SYNC_COMPLETE (R33). -/
def execSyncComplete (s : State) : Host.Outcome State Fault Refusal := s.event s.syncComplete

/-- ROLLBACK_SIGNAL_PLACED (R52). -/
def execRollbackSignalPlaced (s : State) : Host.Outcome State Fault Refusal := s.event s.rollbackPlaced

/-- BUDGET_EXPIRY (R25): a waiting step's budget has run out. -/
def execBudgetExpiry (s : State) : Host.Outcome State Fault Refusal := s.event (s.expireIf Wait.ofStep)

/-- PARK_LIMIT (R35): the limit of the PARK step has run out. -/
def execParkLimit (s : State) : Host.Outcome State Fault Refusal := s.event (s.expireIf (· == .release))

/-- ROLLBACK_WAIT_EXPIRY (R50 to R52): the wait of the rollback's current record has run out. -/
def execRollbackWaitExpiry (s : State) : Host.Outcome State Fault Refusal := s.event (s.expireIf Wait.ofRecord)

end Sys2Proof.Machine
end

