-- ==== Sys2Proof/Machine/Dispatch.lean ====
section
/-! DEFINITION. Each command's meaning: one arm per constructor of Instr. -/

namespace Sys2Proof.Machine

open Sys2Proof

def exec (i : Instr) (s : State) : Host.Outcome State Fault Refusal :=
  match i with
  | .powerOnReset strap wakeA wakeB buttonLow pg => Sys2Proof.Machine.execPowerOnReset strap wakeA wakeB buttonLow pg s
  | .linkUp p => Sys2Proof.Machine.execLinkUp p s
  | .linkDown p => Sys2Proof.Machine.execLinkDown p s
  | .frameReceived p bytes => Sys2Proof.Machine.execFrameReceived p bytes s
  | .frameTaken p => Sys2Proof.Machine.execFrameTaken p s
  | .partnerReadyAsserted p => Sys2Proof.Machine.execPartnerReadyAsserted p s
  | .transmissionEnd p => Sys2Proof.Machine.execTransmissionEnd p s
  | .emitFramePlaced => Sys2Proof.Machine.execEmitFramePlaced s
  | .syncComplete => Sys2Proof.Machine.execSyncComplete s
  | .rollbackSignalPlaced => Sys2Proof.Machine.execRollbackSignalPlaced s
  | .pgRise d => Sys2Proof.Machine.execPgRise d s
  | .pgFall d => Sys2Proof.Machine.execPgFall d s
  | .holdOffExpiry d => Sys2Proof.Machine.execHoldOffExpiry d s
  | .overrangeExpiry d => Sys2Proof.Machine.execOverrangeExpiry d s
  | .budgetExpiry => Sys2Proof.Machine.execBudgetExpiry s
  | .parkLimit => Sys2Proof.Machine.execParkLimit s
  | .rollbackWaitExpiry => Sys2Proof.Machine.execRollbackWaitExpiry s
  | .wakeLineAssertion l => Sys2Proof.Machine.execWakeLineAssertion l s
  | .pressEdge => Sys2Proof.Machine.execPressEdge s
  | .release => Sys2Proof.Machine.execRelease s
  | .debounceExpiry => Sys2Proof.Machine.execDebounceExpiry s
  | .overrideExpiry => Sys2Proof.Machine.execOverrideExpiry s
  | .indicatorPhaseAdvance => Sys2Proof.Machine.execIndicatorPhaseAdvance s
  | .applyNow tag arg => Sys2Proof.Machine.execApplyNow tag arg s
  | .applyAtRest tag arg => Sys2Proof.Machine.execApplyAtRest tag arg s
  | .clearNotices tag arg => Sys2Proof.Machine.execClearNotices tag arg s
  | .setNoticeEnable tag arg => Sys2Proof.Machine.execSetNoticeEnable tag arg s
  | .restoreStaged tag arg => Sys2Proof.Machine.execRestoreStaged tag arg s
  | .clearTripRecord tag arg => Sys2Proof.Machine.execClearTripRecord tag arg s
  | .clearCounters tag arg => Sys2Proof.Machine.execClearCounters tag arg s
  | .stagedWrite tag table index mask values => Sys2Proof.Machine.execStagedWrite tag table index mask values s
  | .signalTableWrite tag index mask values => Sys2Proof.Machine.execSignalTableWrite tag index mask values s
  | .wakeTableWrite tag index mask values => Sys2Proof.Machine.execWakeTableWrite tag index mask values s
  | .captureRecordClear tag index mask values => Sys2Proof.Machine.execCaptureRecordClear tag index mask values s
  | .agentTableWrite tag index mask values => Sys2Proof.Machine.execAgentTableWrite tag index mask values s
  | .countingEnableWrite tag index mask values => Sys2Proof.Machine.execCountingEnableWrite tag index mask values s
  | .indicatorPatternWrite tag index mask values => Sys2Proof.Machine.execIndicatorPatternWrite tag index mask values s
  | .buttonTimesWrite tag index mask values => Sys2Proof.Machine.execButtonTimesWrite tag index mask values s
  | .domainStatusRead tag table index => Sys2Proof.Machine.execDomainStatusRead tag table index s
  | .cfgWr tag table index mask values => Sys2Proof.Machine.execCfgWr tag table index mask values s
  | .noteQueued => Sys2Proof.Machine.execNoteQueued s
  | .partnerReadyDeasserted p => Sys2Proof.Machine.execPartnerReadyDeasserted p s
  | .wakeLineFallingEdge l => Sys2Proof.Machine.execWakeLineFallingEdge l s

end Sys2Proof.Machine
end

