-- ==== Sys2Proof/Machine/Time.lean ====
section
/-! DEFINITION. What the block does by itself while no command waits (DESIGN CHOICE, log 1): the first of its
own events that is due is taken; with none due, one fine tick passes (R88, R89). -/

namespace Sys2Proof.Machine

open Sys2Proof

/-- The row of the table that a CFG request of the hub belongs to. -/
def requestInstr (f : Frame) : Instr :=
  let table := f.body.getD 0 0
  let index := f.body.getD 1 0
  let mask := f.mask
  let values := f.body.drop 4
  let arg := f.body.getD 4 0 ++ f.body.getD 5 0
  match f.kind with
  | .cfgRd | .sig | .xfer | .xferReply | .cfgRsp | .note => .domainStatusRead f.tag table index
  | .cfgWr =>
    if table.toNat = 0 ∧ mask = 1 ∧ values.length = 2 ∧ 1 ≤ index.toNat ∧ index.toNat ≤ 7 then
      match index.toNat with
      | 1 => .applyNow f.tag arg
      | 2 => .applyAtRest f.tag arg
      | 3 => .clearNotices f.tag arg
      | 4 => .setNoticeEnable f.tag arg
      | 5 => .restoreStaged f.tag arg
      | 6 => .clearTripRecord f.tag arg
      | _ => .clearCounters f.tag arg
    else
      match table.toNat with
      | 1 => .stagedWrite f.tag .planHeader index mask values
      | 2 => .stagedWrite f.tag .planStep index mask values
      | 5 => .stagedWrite f.tag .domainConfig index mask values
      | 8 => .countingEnableWrite f.tag index mask values
      | 9 => .signalTableWrite f.tag index mask values
      | 10 => .wakeTableWrite f.tag index mask values
      | 11 => .captureRecordClear f.tag index mask values
      | 12 => .agentTableWrite f.tag index mask values
      | 13 =>
        if mask.getLsbD 8 || mask.getLsbD 9 then .buttonTimesWrite f.tag index mask values
        else .indicatorPatternWrite f.tag index mask values
      | _ => .cfgWr f.tag table index mask values

/-- The CFG frame of the hub that a command stands for; none for a command that is no request (log 8). -/
def requestOf : Instr → Option Frame
  | .applyNow tag arg => some (cfgCommand tag 1 arg)
  | .applyAtRest tag arg => some (cfgCommand tag 2 arg)
  | .clearNotices tag arg => some (cfgCommand tag 3 arg)
  | .setNoticeEnable tag arg => some (cfgCommand tag 4 arg)
  | .restoreStaged tag arg => some (cfgCommand tag 5 arg)
  | .clearTripRecord tag arg => some (cfgCommand tag 6 arg)
  | .clearCounters tag arg => some (cfgCommand tag 7 arg)
  | .stagedWrite tag table index mask values => some (cfgWrite tag (stagedTableId table) index mask values)
  | .signalTableWrite tag index mask values => some (cfgWrite tag 9 index mask values)
  | .wakeTableWrite tag index mask values => some (cfgWrite tag 10 index mask values)
  | .captureRecordClear tag index mask values => some (cfgWrite tag 11 index mask values)
  | .agentTableWrite tag index mask values => some (cfgWrite tag 12 index mask values)
  | .countingEnableWrite tag index mask values => some (cfgWrite tag 8 index mask values)
  | .indicatorPatternWrite tag index mask values => some (cfgWrite tag 13 index mask values)
  | .buttonTimesWrite tag index mask values => some (cfgWrite tag 13 index mask values)
  | .domainStatusRead tag table index => some (cfgRead tag table index)
  | .cfgWr tag table index mask values => some (cfgWrite tag table index mask values)
  | .powerOnReset _ _ _ _ _ | .linkUp _ | .linkDown _ | .frameReceived _ _ | .frameTaken _
  | .partnerReadyAsserted _ | .transmissionEnd _ | .emitFramePlaced | .syncComplete | .rollbackSignalPlaced
  | .pgRise _ | .pgFall _ | .holdOffExpiry _ | .overrangeExpiry _ | .budgetExpiry | .parkLimit
  | .rollbackWaitExpiry | .wakeLineAssertion _ | .pressEdge | .release | .debounceExpiry | .overrideExpiry
  | .indicatorPhaseAdvance | .noteQueued | .partnerReadyDeasserted _ | .wakeLineFallingEdge _ => none

/-- An event of the domain controller that is due. -/
def State.dueDomain (s : State) : Option Instr :=
  match allDomains.find? s.holdDue, allDomains.find? s.overrangeDue with
  | some d, _ => some (.holdOffExpiry d)
  | none, some d => some (.overrangeExpiry d)
  | none, none => none

/-- An event of the sequencer that is due. A budget that is over is taken before a placement, or the end of a drain,
that is possible at the same tick; R26 lets either be taken first (log 1). -/
def State.dueSequencer (s : State) : Option Instr :=
  match s.ctx.wait with
  | .release => if s.budgetDue then some .parkLimit else none
  | .space p _ _ =>
    if s.budgetDue then some .budgetExpiry
    else if (s.port p).linkUp && s.hasPlace (ownQueue p) then some .emitFramePlaced
    else none
  | .rollbackSpace p _ _ =>
    if s.budgetDue then some .rollbackWaitExpiry
    else if (s.port p).linkUp && s.hasPlace (ownQueue p) then some .rollbackSignalPlaced
    else none
  | .drain p => if s.budgetDue then some .budgetExpiry else if s.drained p then some .syncComplete else none
  | .rollbackGood _ | .rollbackLow _ => if s.budgetDue then some .rollbackWaitExpiry else none
  | .enable _ | .good _ | .low _ | .delay | .level _ _ _ _ => if s.budgetDue then some .budgetExpiry else none
  | .idle | .pinned | .rollbackEnable _ => none

/-- An event of the button unit that is due. -/
def State.dueButton (s : State) : Option Instr :=
  if s.debounceDue then some .debounceExpiry else if s.overrideDue then some .overrideExpiry else none

/-- An event of the links, of the configuration unit or of the notice unit that is due. -/
def State.dueLink (s : State) : Option Instr :=
  if s.headFits .up then some (.frameTaken .up)
  else if s.headFits .dn then some (.frameTaken .dn)
  else
    match s.queues.cfgIn with
    | f :: _ => if s.mayServe then some (requestInstr f) else none
    | [] => if s.noteReady then some .noteQueued else none

/-- The first of the block's own events that is due. -/
def State.dueCommand (s : State) : Option Instr :=
  s.dueDomain <|> s.dueSequencer <|> s.dueButton <|> s.dueLink

/-- R88, R89: one fine tick passes; the milli counter advances where the new value is a multiple of 1,024. -/
def State.tick (s : State) : State :=
  let fine := s.fine + 1
  { s with fine := fine, milli := if fine.toNat % finePerMilli = 0 then s.milli + 1 else s.milli }

/-- R128: an advance of the milli counter is an event of the indicator. -/
def State.pass (s : State) : Host.Outcome State Fault Refusal :=
  if s.tick.milli = s.milli then .next s.tick else exec .indicatorPhaseAdvance s.tick

/-- What the block does while no command waits. -/
def State.idle (s : State) : Host.Outcome State Fault Refusal :=
  match s.dueCommand with
  | some c => exec c s
  | none => s.pass

end Sys2Proof.Machine
end

