-- ==== Sys2Proof/WellFormed.lean ====
section
/-! DEFINITION. Which commands the block can receive as their row: the length of a write's body (R184, R188), and
the row to which a write of a table belongs. An ill-formed command still has its effect: a body too long is
dropped by the port, and a write under another row's name is executed by its table id. -/

namespace Sys2Proof

/-- R188: a CFG_WR body holds at most 32 bytes, so at most 28 bytes of values. -/
def valuesFit (values : List Byte) : Bool := values.length ≤ 28

/-- R120: the mask selects the debounce or the override time. -/
def selectsTime (mask : BitVec 16) : Bool := mask.getLsbD 8 || mask.getLsbD 9

/-- Table 11-3: the tables whose writes have a row of their own. -/
def ownRow (table : Byte) : Bool :=
  table == 1 || table == 2 || table == 5 || (8 ≤ table.toNat && table.toNat ≤ 13)

/-- R186: a write of table 0 that executes a command: a code 1–7, field 0 selected, two bytes of argument. -/
def isCommand (table index : Byte) (mask : BitVec 16) (values : List Byte) : Bool :=
  table == 0 && 1 ≤ index.toNat && index.toNat ≤ 7 && mask == 1 && values.length == 2

/-- A command is well formed for its row. -/
def Instr.wf : Instr → Bool
  | .powerOnReset _ _ _ _ _ => true
  | .linkUp _ => true
  | .linkDown _ => true
  | .frameReceived _ _ => true
  | .frameTaken _ => true
  | .partnerReadyAsserted _ => true
  | .transmissionEnd _ => true
  | .emitFramePlaced => true
  | .syncComplete => true
  | .rollbackSignalPlaced => true
  | .pgRise _ => true
  | .pgFall _ => true
  | .holdOffExpiry _ => true
  | .overrangeExpiry _ => true
  | .budgetExpiry => true
  | .parkLimit => true
  | .rollbackWaitExpiry => true
  | .wakeLineAssertion _ => true
  | .pressEdge => true
  | .release => true
  | .debounceExpiry => true
  | .overrideExpiry => true
  | .indicatorPhaseAdvance => true
  | .applyNow _ _ => true
  | .applyAtRest _ _ => true
  | .clearNotices _ _ => true
  | .setNoticeEnable _ _ => true
  | .restoreStaged _ _ => true
  | .clearTripRecord _ _ => true
  | .clearCounters _ _ => true
  | .stagedWrite _ _ _ _ values => valuesFit values
  | .signalTableWrite _ _ _ values => valuesFit values
  | .wakeTableWrite _ _ _ values => valuesFit values
  | .captureRecordClear _ _ _ values => valuesFit values
  | .agentTableWrite _ _ _ values => valuesFit values
  | .countingEnableWrite _ _ _ values => valuesFit values
  | .indicatorPatternWrite _ _ mask values => valuesFit values && !selectsTime mask
  | .buttonTimesWrite _ _ mask values => valuesFit values && selectsTime mask
  | .domainStatusRead _ _ _ => true
  | .cfgWr _ table index mask values => valuesFit values && !ownRow table && !isCommand table index mask values
  | .noteQueued => true
  | .partnerReadyDeasserted _ => true
  | .wakeLineFallingEdge _ => true

end Sys2Proof
end

