-- ==== Sys2Proof/Safety.lean ====
section
/-! DEFINITION. What the statements speak of: the end of an event in closed form, and what a sound state of the
part is, rule by rule. -/

namespace Sys2Proof.Machine

open Sys2Proof

/-! ## The end of an event -/

/-- No frame is held at a receive head. -/
def State.HeadsEmpty (s : State) : Prop := s.up.head = none ∧ s.dn.head = none

/-- The end of an event that leaves both heads empty: both transmitters choose (R155, R156); a NOTE that can be
queued is queued where the event set its mark or no request waits for the place (R191), and the transmitters choose
again. `owed` says whether a NOTE was owed before the event. -/
def State.endEvent (s : State) (owed : Bool) : State :=
  if s.chooseBoth.noteReady && (!owed || s.queues.cfgIn.isEmpty) then s.chooseBoth.queueNote.chooseBoth
  else s.chooseBoth

/-- The state an event taken in `s` ends in, where its work comes to `t` and both heads are empty. -/
def State.ends (s t : State) : State := t.endEvent s.notices.owed

/-- Nothing is left to do at the end of an event: no transmitter may choose, no held frame may be taken, no
NOTE may be queued. -/
def State.Settled (s : State) : Prop :=
  s.chooseBoth = s ∧ s.headFits .up = false ∧ s.headFits .dn = false ∧ s.noteReady = false

/-- The work an event sets off comes to `u`, with both heads empty, within the bound of log 14. -/
def comesTo (a : Act) (u : State) : Prop :=
  ∃ n, n + 8 ≤ Config.chainFuel ∧ quiesce n a.2 a.1 = some u ∧ u.HeadsEmpty

/-- The state with the link's outgoing side set aside: queues, frames in transmission, the owed mark. -/
def State.beside (s : State) : State :=
  { s with
    queues := emptyQueues,
    up := { s.up with sending := none },
    dn := { s.dn with sending := none },
    notices := { s.notices with owed := false } }

/-! ## Requests and their answers -/

/-- The configuration unit can execute a request that reaches it now: no head and no request waits, and UP is
DOWN or UP-RSP has a free place (R182). -/
def State.ConfigReady (s : State) : Prop :=
  s.HeadsEmpty ∧ s.queues.cfgIn = [] ∧ (s.up.linkUp = true → s.queues.upRsp.length < 4)

/-- R182, R184: the CFG_RSP of a request is placed in UP-RSP, or discarded at the DOWN port (R154). -/
def State.answered (s : State) (tag : BitVec 4) (table index : Byte) (st : CfgStatus) (record : List Byte) : State :=
  if s.up.linkUp then
    s.setQueue .upRsp (s.queue .upRsp
      ++ [{ kind := .cfgRsp, tag := tag, dest := 0, source := 15, body := BitVec.ofNat 8 st.code :: table :: index :: record }])
  else { s with up := { s.up with discards := min (s.up.discards + 1) 65535 } }.notify .txDiscard

/-! ## Waits and expiries -/

/-- R90: the budget in force has run out. -/
def State.BudgetOver (s : State) : Prop :=
  ∃ b, s.ctx.budget = some b ∧ b ≤ (s.now s.ctx.clock - s.ctx.startTick).toNat

/-! ## Steps of a plan that only wait -/

/-- The plan that runs has, at this index, a DELAY step with a budget other than 0 (R31), so a chain of steps
that reaches it stops there. -/
def State.delaysAt (s : State) (i : Nat) (t : Step) : Prop :=
  (s.runningPlan.bind fun p => p.step? i) = some t ∧ t.kind = .delay ∧ t.unit ≠ .learned ∧ t.budget ≠ 0

/-- The state in which a DELAY step waits that starts now (R24, R31). -/
def State.delaying (s : State) (i : Nat) (t : Step) : State := (s.beginStep t i).setWait .delay

/-! ## The end of a step -/

/-- R24: what the completion of the current step comes to: the wait is over, PARKED is left, the next step starts. -/
def State.proceeding (s : State) : Act := ((s.setWait .idle).leavePark, [.start (s.ctx.index + 1)])

/-- R39 to R41: what the failure of the step `t` at index `i` comes to, by its failure action: the plan proceeds with
the failure mark set, the entry aborts, or the platform trips. -/
def State.failing (s : State) (t : Step) (i : Nat) : Act :=
  let u := s.setWait .idle
  match t.action with
  | .cont =>
    ({ u.leavePark with ctx := { u.leavePark.ctx with failMark := true } }.notify .stepFailed, [.start (i + 1)])
  | .abort => u.abort (if t.kind = .park then .parkLimit else .step i)
  | .trip =>
    (u, [.tripCause
      (if t.kind = .retry then .retryExhausted i
       else if s.ctx.slot = some 0 ∨ s.ctx.slot = some 1 ∨ s.ctx.slot = some 2 then .entryFailed i
       else .exitFailed i)])

/-- R49: what the completion of the rollback's current record comes to. -/
def State.recordOver (s : State) : Act :=
  ({ s with ctx := { s.ctx with wait := .idle, record := none } }, [.rollback])

/-- R53: what the failure of the rollback's current record comes to. -/
def State.recordFails (s : State) : Act :=
  ({ s with ctx := { s.ctx with wait := .idle, record := none } }, [.tripCause .rollbackFailed])

/-- R77: a wait-expiry report counts a timeout of the domain, while its statistics count. -/
def State.timeoutCounted (s : State) (d : DomainId) : State :=
  if (s.dom d).counting then
    s.setDom d { s.dom d with
      stats := { (s.dom d).stats with timeouts := min ((s.dom d).stats.timeouts + 1) 65535 } }
  else s

/-! ## Sound states -/

/-- R153: no queue holds more frames than its capacity. -/
def State.QueuesBounded (s : State) : Prop := ∀ q, (s.queue q).length ≤ capacity q

/-- R146, R154, R161: a DOWN port holds nothing: no head, no frame in transmission, no queued frame. -/
def State.DownPortsEmpty (s : State) : Prop :=
  ∀ p, (s.port p).linkUp = false →
    (s.port p).head = none ∧ (s.port p).sending = none ∧ ∀ q ∈ txQueues p, s.queue q = []

/-- R147, R149, R151, R163: every frame in the part is well formed; a head holds one its port accepts; the input
queue holds the hub's requests to agent 15. -/
def State.FramesSound (s : State) : Prop :=
  (∀ q, ∀ f ∈ s.queue q, f.wf = true)
    ∧ (∀ p, ∀ f, (s.port p).head = some f → f.wf = true ∧ sourceAllowed p f.source = true)
    ∧ (∀ p, ∀ x, (s.port p).sending = some x → x.2.wf = true)
    ∧ ∀ f ∈ s.queues.cfgIn, (f.kind = .cfgWr ∨ f.kind = .cfgRd) ∧ f.dest = 15 ∧ f.source = 0

/-- R132, R134: a signal-table entry passes its tests, and reads UNKNOWN while it is not tracked in use. -/
def SignalEntry.Sound (e : SignalEntry) : Prop :=
  e.wf = true ∧ (e.inUse = false ∨ e.track = false → e.level = .unknown)

/-- R133: no two in-use entries have the same key. -/
def State.KeysDistinct (s : State) : Prop :=
  ∀ i j : Fin 64, (s.signals.get i).inUse = true →
    (s.signals.get j).hasKey (s.signals.get i).port (s.signals.get i).agent (s.signals.get i).signal = true → i = j

/-- R132 to R134: the signal table is sound. -/
def State.SignalsSound (s : State) : Prop := (∀ i : Fin 64, (s.signals.get i).Sound) ∧ s.KeysDistinct

/-- R103: the record of W0 is fixed. -/
def State.ButtonSourceFixed (s : State) : Prop := s.wakes.get 0 = wakeRecord0

/-- R109: the shape of a capture record. -/
def CaptureRecord.Sound (c : CaptureRecord) : Prop :=
  (c.count = 0 ↔ c.captured = false) ∧ (c.overwritten = true → 2 ≤ c.count) ∧ c.count ≤ 255

/-- R109: every capture record is sound. -/
def State.CapturesSound (s : State) : Prop := ∀ n : SourceId, (s.captures.get n).Sound

/-- R174: a status is IN_PROGRESS exactly when the apply-pending mark is set. -/
def State.MarksMatch (s : State) : Prop :=
  ∀ k : ItemId, s.applyStatus.get k = .inProgress ↔ s.applyPending.get k = true

/-- R119 to R124: the button's times keep their ranges and order, a hold lasts only while the line is low,
and the hub-signal mark stands only in a recognized hold. -/
def State.ButtonSound (s : State) : Prop :=
  buttonTimesWf s.button.debounce s.button.override = true
    ∧ buttonTimesWf s.button.debounceInForce s.button.overrideInForce = true
    ∧ (s.button.hold ≠ .idle → s.button.low = true)
    ∧ (s.button.hubMark = true → s.button.hold = .held ∨ s.button.hold = .overridden)

/-- R126, R128, R130: patterns keep their ranges, the phase lies below the selected period and is 0 in a
lead-in, and a pattern not selected has its buffered copy at work. -/
def State.IndicatorSound (s : State) : Prop :=
  (∀ k : Fin 4, (s.indicator.working.get k).wf = true ∧ (s.indicator.buffered.get k).wf = true)
    ∧ s.indicator.phase < (s.indicator.working.get s.selected).period
    ∧ (s.indicator.leadIn = true → s.indicator.phase = 0)
    ∧ ∀ k : Fin 4, k ≠ s.selected → s.indicator.working.get k = s.indicator.buffered.get k

/-- R86: the eight counters of a domain stay within their ceiling. -/
def DomainStats.Bounded (t : DomainStats) : Prop :=
  t.riseOk ≤ 65535 ∧ t.riseFast ≤ 65535 ∧ t.riseSlow ≤ 65535 ∧ t.fallOk ≤ 65535 ∧ t.fallFast ≤ 65535
    ∧ t.fallSlow ≤ 65535 ∧ t.timeouts ≤ 65535 ∧ t.faults ≤ 65535

/-- R56, R86, R146, R160: every counter stays within its ceiling. -/
def State.CountersBounded (s : State) : Prop :=
  (∀ p, (s.port p).errors ≤ 65535 ∧ (s.port p).discards ≤ 65535)
    ∧ (∀ a : Fin 14, (s.agents.get a).misses ≤ 255)
    ∧ s.trip.secondary ≤ 255
    ∧ ∀ d : DomainId, (s.dom d).stats.Bounded

/-- R166: every record of a copy of the items passes its field tests, and every step count is at most 32. -/
def ConfigSet.Sound (c : ConfigSet) : Prop :=
  (∀ k : SlotId, (c.plans.get k).count ≤ 32 ∧ ∀ i : Fin 32, ((c.plans.get k).steps.get i).wf = true)
    ∧ ∀ d : DomainId, (c.domains.get d).wf = true

/-- R166, R170: both copies of the items are sound. -/
def State.SetsSound (s : State) : Prop := s.staged.Sound ∧ s.active.Sound

/-- R98: a learned average is NO_SAMPLE or at most four times the widest window's maximum. -/
def avgSound : Option Nat → Prop
  | none => True
  | some a => a ≤ 240000

/-- R94, R98, R101: averages, last ramps and hold-off lengths stay within their figures. -/
def DomainRuntime.Sound (r : DomainRuntime) : Prop :=
  avgSound r.riseAvg ∧ avgSound r.fallAvg
    ∧ (∀ x, r.lastRise = some x → x.value ≤ 65535) ∧ (∀ x, r.lastFall = some x → x.value ≤ 65535)
    ∧ ∀ h, r.hold = some h → 0 < h.length ∧ h.length ≤ 60000

/-- R94, R98, R101, R166: the sets are sound, and the ramp figures of every domain with them. -/
def State.RampsSound (s : State) : Prop := s.SetsSound ∧ ∀ d : DomainId, (s.dom d).Sound

/-- R43: no two undo records have the same subject. -/
def State.UndoDistinct (s : State) : Prop := s.undo.Pairwise fun a b => a.sameSubject b = false

/-- R64, R66, R70: the domain controller's own invariant: the active set is a forest; an absent domain is OFF;
a RISING domain has its power-good low, an ON or FALLING domain has it high; the parent of a RISING or ON
domain is none or ON. -/
def State.DomainsSound (s : State) : Prop :=
  graphOk s.active.domains = true
    ∧ ∀ d : DomainId,
      ((s.cfg d).present = false → (s.dom d).state = .off)
        ∧ ((s.dom d).state = .rising → (s.dom d).pg = false)
        ∧ ((s.dom d).state = .on ∨ (s.dom d).state = .falling → (s.dom d).pg = true)
        ∧ ((s.dom d).state.enabled = true → s.parentReady d = true)

/-! ## The sequencer's context -/

/-- R27 to R35: what a step waits for, by its kind; the kinds that wait for nothing have none. -/
def Step.waitsFor (t : Step) : Option Wait :=
  match t.kind, t.place with
  | .enable, .domain d => some (.enable d)
  | .awaitGood, .domain d => some (.good d)
  | .awaitLow, .domain d => some (.low d)
  | .emit, .port p => some (.space p t.signal t.level)
  | .sync, .port p => some (.drain p)
  | .guard, .port p => some (.level p t.agent t.signal t.level)
  | .delay, _ => some .delay
  | .park, _ => some .release
  | _, _ => none

/-- R50 to R52: what a record of the undo stack waits for. -/
def UndoRecord.waits (r : UndoRecord) (w : Wait) : Prop :=
  match r with
  | .domain d true => w = .rollbackEnable d ∨ w = .rollbackGood d
  | .domain d false => w = .rollbackLow d
  | .signal p n l => w = .rollbackSpace p n l

/-- R22: the running plan has a current step, and the wait is one of that step. -/
def State.StepWaits (s : State) : Prop := ∃ t, s.currentStep = some t ∧ t.waitsFor = some s.ctx.wait

/-- R21, R167, R168: what every active plan keeps while it is active: it has a step and keeps the shape of its slot,
its domain steps name present domains, and its EMIT, SYNC and GUARD steps name ports. -/
def State.PlansSound (s : State) : Prop :=
  ∀ k : SlotId,
    (s.active.plans.get k).count ≠ 0 ∧ planShape k (s.active.plans.get k) = true
      ∧ ∀ i t, (s.active.plans.get k).step? i = some t →
          (t.kind = .enable ∨ t.kind = .disable ∨ t.kind = .awaitGood ∨ t.kind = .awaitLow →
              ∃ d, t.place = .domain d ∧ (s.cfg d).present = true)
            ∧ (t.kind = .emit ∨ t.kind = .sync ∨ t.kind = .guard → ∃ p, t.place = .port p)

/-- R1, R2, R3, R22, R24, R36, R46, R49, R55: the running-plan context agrees with the platform state. At rest it is
released, and the undo stack is empty. -/
def State.ContextSound (s : State) : Prop :=
  let c := s.ctx
  match s.platform with
  | .run | .suspended | .hibernated | .softOff | .tripped => c = releasedContext ∧ s.undo = []
  | .checking | .parked =>
    (c.slot = some 0 ∨ c.slot = some 1 ∨ c.slot = some 2) ∧ c.portion = .check ∧ s.StepWaits
      ∧ (s.platform = .parked ↔ c.wait = .release)
      ∧ (∃ k, (s.runningPlan.bind Plan.commitIndex) = some k ∧ c.index < k)
      ∧ c.record = none ∧ c.tripTarget = none
  | .committing =>
    (c.slot = some 0 ∨ c.slot = some 1 ∨ c.slot = some 2) ∧ c.portion = .commit ∧ s.StepWaits
      ∧ (∃ k, (s.runningPlan.bind Plan.commitIndex) = some k ∧ k < c.index)
      ∧ s.undo = [] ∧ c.record = none ∧ c.tripTarget = none
  | .waking =>
    (c.slot = some 3 ∨ c.slot = some 4 ∨ c.slot = some 5) ∧ c.portion = .exit
      ∧ (s.StepWaits ∨ c.wait = .pinned ∧ c.index = 0)
      ∧ s.undo = [] ∧ c.record = none ∧ c.tripTarget = none
  | .returning =>
    (c.slot = some 0 ∨ c.slot = some 1 ∨ c.slot = some 2) ∧ c.portion = .rollback
      ∧ (∃ r, c.record = some r ∧ r.waits c.wait) ∧ c.tripTarget = none
  | .tripping =>
    c.slot = some 6 ∧ c.portion = .trip ∧ s.StepWaits ∧ s.undo = [] ∧ c.record = none ∧ c.tripTarget ≠ none

/-- R12, R16, R17: the sequencer's marks stand only in the states that hold them. -/
def State.MarksHeld (s : State) : Prop :=
  (s.pendingWake ≠ none → s.platform = .committing)
    ∧ (s.pendingRequest = true → s.platform = .waking)
    ∧ (s.requestStale = true → s.platform = .run ∧ s.requested ≠ .run)

/-- The sequencer is sound: its active plans, its context and its marks. -/
def State.SequencerSound (s : State) : Prop := s.PlansSound ∧ s.ContextSound ∧ s.MarksHeld

/-- R43, R167: the domains that the undo stack and the rollback's current record name are present. -/
def State.RecordsPresent (s : State) : Prop :=
  ∀ d b, UndoRecord.domain d b ∈ s.undo ∨ s.ctx.record = some (.domain d b) → (s.cfg d).present = true

end Sys2Proof.Machine
end

