-- ==== Sys2Proof/Certificates/Slice0/Obligations.lean ====
section
/-! DEFINITION. The statements for the provers. Each docstring names the rule it formalises. `s.ends t` is the end
of the event whose work left `t`: the transmitters choose and the NOTE is queued where it may be, nothing else (the
model's choices, logs 6 and 7). `comesTo a u` says that the work `a` an event sets off comes to `u`. -/

open Sys2Proof Sys2Proof.Machine

/-! ## The machine's shape -/

/-- A step runs the command at the front of the queue on the state with the queue's rest. -/
def Obligations.StepRunsFrontCommand : Prop :=
  ∀ (c : Instr) (rest : List Instr) (s : State), s.pending = c :: rest → step s = exec c { s with pending := rest }

/-- R88, R89, R128. On an empty queue (the model's choice, log 1) the first due event of the block is taken; with
none due a fine tick passes, and at a multiple of 1,024 the milli counter and the indicator advance with it. -/
def Obligations.IdleStepTakesDueEventOrTicks : Prop :=
  ∀ s : State, s.pending = [] →
    (∀ c, s.dueCommand = some c → step s = exec c s)
      ∧ (s.dueCommand = none → (s.fine + 1).toNat % 1024 ≠ 0 → step s = .next { s with fine := s.fine + 1 })
      ∧ (s.dueCommand = none → (s.fine + 1).toNat % 1024 = 0 →
          step s = .next { s with
            fine := s.fine + 1, milli := s.milli + 1, indicator := s.indicator.advance s.selected })

/-- R155, R156, R191. The end of an event (its place after the event's other work is the model's choice, log 6, and
the NOTE's turn among the producers, log 7) touches the transmitting side alone: a queue but UP-RSP keeps its frames
or loses its head, UP-RSP gains at most the one NOTE besides, a transmitter takes a head only where it may choose, and
the owed mark is at most cleared. -/
def Obligations.EndOfEventTouchesOnlyTransmission : Prop :=
  ∀ (s : State) (owed : Bool),
    let t := s.endEvent owed
    t.beside = s.beside
      ∧ t.queues.cfgIn = s.queues.cfgIn
      ∧ (t.notices.owed = true → s.notices.owed = true)
      ∧ (∀ q, q ≠ .upRsp → t.queue q = s.queue q ∨ t.queue q = (s.queue q).tail)
      ∧ (∃ note : List Frame,
          (note = [] ∧ t.notices.owed = s.notices.owed
            ∨ note = [s.noteFrame] ∧ s.notices.owed = true ∧ t.notices.owed = false ∧ s.up.linkUp = true)
          ∧ (t.queue .upRsp = s.queue .upRsp ++ note ∨ t.queue .upRsp = (s.queue .upRsp ++ note).tail))
      ∧ ∀ p, (t.port p).sending = (s.port p).sending
          ∨ (s.port p).linkUp = true ∧ (s.port p).partnerReady = true ∧ (s.port p).sending = none
            ∧ ∃ q f, q ∈ txQueues p ∧ (t.port p).sending = some (q, f)
                ∧ ((s.queue q).head? = some f ∨ q = .upRsp ∧ s.queue q = [] ∧ f = s.noteFrame)

/-- R155, R156: the choice of a transmitter, which is made where its port is UP, its partner's ready is asserted and it
is idle; and the partner's ready and the end of a transmission as commands, where no frame is held: the choice they
allow is made at the event's end (the model's choice, log 6), and a waiting SYNC step that the end of a transmission
drains is completed by a command of its own (the model's choice, log 27). -/
def Obligations.TransmitterServesQueuesInOrder : Prop :=
  (∀ (s : State) (p : Port) (f : Frame) (rest : List Frame),
    ((s.port p).linkUp = false ∨ (s.port p).partnerReady = false ∨ (s.port p).sending ≠ none → s.chooseFrame p = s)
      ∧ ((∀ q ∈ txQueues p, s.queue q = []) → s.chooseFrame p = s)
      ∧ (s.up.linkUp = true → s.up.partnerReady = true → s.up.sending = none →
          (s.queues.upOwn = f :: rest →
            s.chooseFrame .up = { s with
              queues := { s.queues with upOwn := rest }, up := { s.up with sending := some (.upOwn, f) } })
          ∧ (s.queues.upOwn = [] → s.queues.upFwdSig = f :: rest →
            s.chooseFrame .up = { s with
              queues := { s.queues with upFwdSig := rest }, up := { s.up with sending := some (.upFwdSig, f) } })
          ∧ (s.queues.upOwn = [] → s.queues.upFwdSig = [] → s.queues.upRsp = f :: rest →
            s.chooseFrame .up = { s with
              queues := { s.queues with upRsp := rest }, up := { s.up with sending := some (.upRsp, f) } })
          ∧ (s.queues.upOwn = [] → s.queues.upFwdSig = [] → s.queues.upRsp = [] → s.queues.upBulk = f :: rest →
            s.chooseFrame .up = { s with
              queues := { s.queues with upBulk := rest }, up := { s.up with sending := some (.upBulk, f) } }))
      ∧ (s.dn.linkUp = true → s.dn.partnerReady = true → s.dn.sending = none →
          (s.queues.dnOwn = f :: rest →
            s.chooseFrame .dn = { s with
              queues := { s.queues with dnOwn := rest }, dn := { s.dn with sending := some (.dnOwn, f) } })
          ∧ (s.queues.dnOwn = [] → s.queues.dnFwd = f :: rest →
            s.chooseFrame .dn = { s with
              queues := { s.queues with dnFwd := rest }, dn := { s.dn with sending := some (.dnFwd, f) } })))
    ∧ ∀ (p : Port) (s : State), s.HeadsEmpty →
      exec (.partnerReadyAsserted p) s = .next (s.ends (s.setPort p { s.port p with partnerReady := true }))
        ∧ exec (.partnerReadyDeasserted p) s = .next (s.ends (s.setPort p { s.port p with partnerReady := false }))
        ∧ exec (.transmissionEnd p) s = .next (s.ends (s.setPort p { s.port p with sending := none }))

/-- Power-on reset leaves every sound-state condition of the spec true: `State.reset`, which is one reset with the
sampled levels of log 4 and the values of log 5 in the registers that have no reset value, and every POWER_ON_RESET
with any sampled levels, under STAY_OFF, and under AUTO_ON with the power-good of D0 low. -/
def Obligations.ResetIsSound : Prop :=
  let sound (t : State) : Prop :=
    t.QueuesBounded ∧ t.DownPortsEmpty ∧ t.FramesSound ∧ t.SignalsSound ∧ t.ButtonSourceFixed ∧ t.CapturesSound
      ∧ t.MarksMatch ∧ t.ButtonSound ∧ t.IndicatorSound ∧ t.CountersBounded ∧ t.RampsSound ∧ t.UndoDistinct
      ∧ t.DomainsSound ∧ t.SequencerSound ∧ t.RecordsPresent
  sound State.reset
    ∧ ∀ (strap : Strap) (a b low : Bool) (pg : BitVec 10) (s t : State), strap = .stayOff ∨ pg.getLsbD 0 = false →
      exec (.powerOnReset strap a b low pg) s = .next t → sound t

/-- R19, R20, R65, R88, R89, R102, R118, R119, R146, R165, R189: the values after POWER_ON_RESET, from any state and
with any sampled levels. D0 is the ROM set's one pinned domain. The commands that wait keep their place, and the
partners' ready is deasserted (the model's choices, log 20). Under AUTO_ON (R20, R3) plan 5 starts within the reset.
With the power-good of D0 low it waits for D0. With it high, and that of D9 low, it runs to its wait for D9, and the
flags its steps raise are set beside STATE_CHANGED (the model's reading, log 19). -/
def Obligations.PowerOnResetUnderEachStrap : Prop :=
  (∀ (s : State) (a b low : Bool) (pg : BitVec 10), ∃ t,
    exec (.powerOnReset .stayOff a b low pg) s = .next t
      ∧ t.platform = .softOff ∧ t.requested = .run ∧ t.ctx.slot = none ∧ t.ctx.portion = .none
      ∧ t.ctx.wait = .idle ∧ t.undo = []
      ∧ (∀ p sig, t.emitted p sig = .deasserted)
      ∧ t.pendingWake = none ∧ t.pendingRequest = false ∧ t.requestStale = false
      ∧ t.lastAbort = none ∧ t.wakeCause = none ∧ t.trip.first = none ∧ t.trip.secondary = 0
      ∧ t.fine = 0 ∧ t.milli = 0
      ∧ (t.dom 0).state = (if pg.getLsbD 0 then .on else .rising)
      ∧ (∀ d : DomainId, d ≠ 0 → (t.dom d).state = .off)
      ∧ (∀ d : DomainId, (t.dom d).pg = pg.getLsbD d.val ∧ (t.dom d).change = false ∧ (t.dom d).stray = false
          ∧ (t.dom d).hold = none ∧ (t.dom d).riseAvg = none ∧ (t.dom d).fallAvg = none
          ∧ (t.dom d).lastRise = none ∧ (t.dom d).lastFall = none ∧ (t.dom d).cause = none
          ∧ (t.dom d).rampStart = 0 ∧ (t.dom d).overrange = false ∧ (t.dom d).counting = false
          ∧ (t.dom d).stats = zeroStats)
      ∧ t.staged = romSet ∧ t.active = romSet
      ∧ (∀ k : ItemId, t.applyPending.get k = false ∧ t.applyStatus.get k = .none)
      ∧ t.wakes = romWakes ∧ (∀ n : SourceId, t.captures.get n = clearCapture)
      ∧ t.wakeA = a ∧ t.wakeB = b ∧ t.button.low = low
      ∧ t.button.hold = .idle ∧ t.button.pressTick = 0 ∧ t.button.hubMark = false
      ∧ t.button.debounce = 2 ∧ t.button.override = 244
      ∧ t.indicator.working = romPatterns ∧ t.indicator.buffered = romPatterns ∧ t.indicator.phase = 0
      ∧ t.signals = romSignals ∧ (∀ i : Fin 14, t.agents.get i = { present := true, powering := none, misses := 0 })
      ∧ (∀ p, (t.port p).linkUp = false ∧ (t.port p).head = none ∧ (t.port p).partnerReady = false
          ∧ (t.port p).sending = none ∧ (t.port p).errors = 0 ∧ (t.port p).discards = 0)
      ∧ (∀ q, t.queue q = [])
      ∧ t.notices.flags = 0 ∧ t.notices.enables = 8 ∧ t.notices.owed = false
      ∧ t.rpol = .stayOff ∧ t.pending = s.pending)
    ∧ (∀ (s : State) (a b low : Bool) (pg : BitVec 10), pg.getLsbD 0 = false → ∃ t,
      exec (.powerOnReset .autoOn a b low pg) s = .next t
        ∧ t.platform = .waking ∧ t.wakeCause = some .powerRestore
        ∧ t.ctx.slot = some 5 ∧ t.ctx.portion = .exit ∧ t.ctx.index = 0 ∧ t.ctx.wait = .pinned
        ∧ (t.dom 0).state = .rising
        ∧ t.notices.flags = 1 ∧ t.notices.owed = false
        ∧ t.requested = .run ∧ t.rpol = .autoOn ∧ t.pending = s.pending)
    ∧ ∀ (s : State) (a b low : Bool) (pg : BitVec 10), pg.getLsbD 0 = true → pg.getLsbD 9 = false → ∃ t,
      exec (.powerOnReset .autoOn a b low pg) s = .next t
        ∧ t.platform = .waking ∧ t.wakeCause = some .powerRestore
        ∧ t.ctx.slot = some 5 ∧ t.ctx.portion = .exit ∧ t.ctx.index = 1 ∧ t.ctx.wait = .good 9
        ∧ (t.dom 0).state = .on ∧ (t.dom 9).state = .rising
        ∧ t.notices.flags = 3 ∧ t.notices.owed = false
        ∧ t.requested = .run ∧ t.rpol = .autoOn ∧ t.pending = s.pending

/-! ## Links -/

/-- R162, R146, R191: LINK_UP. A port already UP is left as it is. The partner's ready keeps its level, under which the
transmitter may choose at the event's end (the model's reading and choice, logs 23 and 6). A LINK_UP of UP offers the
NOTE, owed before it or not. R157: a frame held at the other port's head is judged again, with the port UP and the
transmitters' choices made. Its route finds its place and it is taken, a signal with its effects (`u` is what the taking
comes to); without its place it stays. A place that opened in the event and that another producer waits for is left
(the model's choice, log 7). -/
def Obligations.LinkUpOpensPort : Prop :=
  ∀ (p : Port) (s : State),
    ((s.port p).linkUp = true → exec (.linkUp p) s = .next s)
      ∧ ((s.port p).linkUp = false → s.HeadsEmpty →
          exec (.linkUp p) s
            = .next ((s.setPort p { s.port p with linkUp := true }).endEvent
                (match p with | .up => false | .dn => s.notices.owed)))
      ∧ (∀ r f, r ≠ p → (s.port p).linkUp = false → (s.port p).head = none → (s.port r).head = some f →
          let opened := s.setPort p { s.port p with linkUp := true }
          let v := opened.chooseBoth
          (v.fits (v.fate r f) = true →
            ((v.fate r f).queue = some .upRsp →
              s.queues.upRsp.length < 4 ∨ (p = .up ∨ s.notices.owed = false) ∧ s.queues.cfgIn = []) →
            ((v.fate r f).queue = some .dnOwn →
              s.queues.dnOwn.length < 8 ∨ ∀ n l, s.ctx.wait ≠ .space .dn n l ∧ s.ctx.wait ≠ .rollbackSpace .dn n l) →
            (f.kind ≠ .sig ∨ v.lookup r f.source f.signal = none →
              exec (.linkUp p) s
                = .next (((v.setPort r { v.port r with head := none }).carryFate (v.fate r f) f).endEvent
                    (match p with | .up => false | .dn => s.notices.owed)))
            ∧ ∀ u, comesTo (v, [.judge r]) u →
              exec (.linkUp p) s = .next (u.endEvent (match p with | .up => false | .dn => s.notices.owed)))
          ∧ (opened.fits (opened.fate r f) = false → opened.Settled → exec (.linkUp p) s = .next opened))

/-- R161, R32, R33, R52: LINK_DOWN of an UP port, with no frame held at the other port. The port goes DOWN and is
flushed; its partner's ready keeps its level (the model's reading, log 23). A wait on a queue of the port ends: an EMIT
step takes the down-port case and completes, a SYNC step completes, a rollback's signal record takes the down-port case
and completes; what the plan or the rollback goes on to is `u`. Where the step after is a DELAY, it waits in it. A port
already DOWN is left as it is. -/
def Obligations.LinkDownFlushesPort : Prop :=
  ∀ (p : Port) (s : State),
    ((s.port p).linkUp = false → exec (.linkDown p) s = .next s)
      ∧ ((s.port p).linkUp = true → (∀ r, r ≠ p → (s.port r).head = none) →
          ∃ v : State,
            (v.port p).linkUp = false ∧ (v.port p).head = none ∧ (v.port p).sending = none
            ∧ (v.port p).errors = (s.port p).errors ∧ (v.port p).partnerReady = (s.port p).partnerReady
            ∧ (v.port p).discards
                = min ((s.port p).discards
                    + (((txQueues p).map fun q => (s.queue q).length).sum
                        + (if (s.port p).sending.isSome then 1 else 0))) 65535
            ∧ (∀ q ∈ txQueues p, v.queue q = []) ∧ (∀ q, q ∉ txQueues p → v.queue q = s.queue q)
            ∧ (∀ r, r ≠ p → v.port r = s.port r)
            ∧ v.notices = s.notices.raise .txDiscard
            ∧ v = { s with up := v.up, dn := v.dn, queues := v.queues, notices := v.notices }
            ∧ ((∀ sig l, s.ctx.wait ≠ .space p sig l ∧ s.ctx.wait ≠ .rollbackSpace p sig l) → s.ctx.wait ≠ .drain p →
                exec (.linkDown p) s = .next (s.ends v))
            ∧ (∀ sig l u, s.ctx.wait = .space p sig l → comesTo (v.emitStep p sig l).proceeding u →
                exec (.linkDown p) s = .next (s.ends u))
            ∧ (∀ u, s.ctx.wait = .drain p → comesTo v.proceeding u → exec (.linkDown p) s = .next (s.ends u))
            ∧ (∀ sig l u, s.ctx.wait = .rollbackSpace p sig l →
                comesTo
                  (State.recordOver ((State.notify
                      (v.setPort p { v.port p with discards := min ((v.port p).discards + 1) 65535 }) .txDiscard).setEmitted
                    p sig l)) u →
                exec (.linkDown p) s = .next (s.ends u)))
      ∧ (∀ sig l t, (s.port p).linkUp = true → s.HeadsEmpty → s.ctx.wait = .space p sig l →
          s.delaysAt (s.ctx.index + 1) t →
          ∃ u, exec (.linkDown p) s = .next (s.ends u)
            ∧ u.ctx.wait = .delay ∧ u.ctx.index = s.ctx.index + 1
            ∧ u.emitted p sig = l
            ∧ (u.port p).discards = min (min ((s.port p).discards + s.flushCount p) 65535 + 1) 65535
            ∧ (∀ q ∈ txQueues p, u.queue q = []))
      ∧ (∀ sig l, (s.port p).linkUp = true → s.HeadsEmpty → s.ctx.wait = .rollbackSpace p sig l →
          s.platform = .returning → s.ctx.portion = .rollback → s.undo = [] →
          (∀ k : ItemId, s.applyPending.get k = false) →
          ∃ u, exec (.linkDown p) s = .next (s.ends u)
            ∧ u.platform = .run ∧ u.ctx = releasedContext ∧ u.emitted p sig = l)

/-- R149, R150: FRAME_RECEIVED. A malformed frame, and a frame that completes reception into a full head, are dropped
and counted. A DOWN port receives nothing (the model's choice, log 11). R150 to R154, R159, R187: a good frame that is
no signal is taken in the event of its arrival when its route finds its place, the head is empty again, and its fate
is carried out: nothing, a miss counted, a frame at the tail of the queue of its route, a discard at the DOWN UP port,
or a reply. -/
def Obligations.FrameReceivedIsDroppedOrRouted : Prop :=
  (∀ (p : Port) (bytes : List Byte) (s : State),
    ((s.port p).linkUp = false → s.HeadsEmpty → exec (.frameReceived p bytes) s = .next (s.ends s))
      ∧ ((s.port p).linkUp = true → receivedFrame p bytes = none → s.HeadsEmpty →
          exec (.frameReceived p bytes) s
            = .next (s.ends ((s.setPort p { s.port p with errors := min ((s.port p).errors + 1) 65535 }).notify .linkError)))
      ∧ ((s.port p).linkUp = true → (s.port p).head ≠ none →
          State.Settled ((s.setPort p { s.port p with errors := min ((s.port p).errors + 1) 65535 }).notify .linkError) →
          exec (.frameReceived p bytes) s
            = .next ((s.setPort p { s.port p with errors := min ((s.port p).errors + 1) 65535 }).notify .linkError))
      ∧ (∀ f, (s.port p).linkUp = true → s.HeadsEmpty → receivedFrame p bytes = some f → f.kind ≠ .sig →
          s.fits (s.fate p f) = true →
          exec (.frameReceived p bytes) s = .next (s.ends (s.carryFate (s.fate p f) f)))
      ∧ (∀ f, (s.port p).linkUp = true → (s.port p).head = none → (∀ r, r ≠ p → (s.port r).head = none) →
          receivedFrame p bytes = some f → s.fits (s.fate p f) = false →
          State.Settled (s.setPort p { s.port p with head := some f }) →
          exec (.frameReceived p bytes) s = .next (s.setPort p { s.port p with head := some f })))
    ∧ ∀ (q : QueueId) (i : Fin 14) (f g : Frame) (s : State),
      let missed := State.notify
        { s with agents := s.agents.set i { s.agents.get i with misses := min ((s.agents.get i).misses + 1) 255 } }
        .agentAbsent
      let joins (t : State) (r : QueueId) (x : Frame) : State := t.setQueue r (t.queue r ++ [x])
      s.carryFate .consume f = s
        ∧ s.carryFate (.miss (BitVec.ofNat 4 (i.val + 1))) f = missed
        ∧ (s.hasPlace .upRsp = true →
            s.carryFate (.noAgent (BitVec.ofNat 4 (i.val + 1))) f
              = joins missed .upRsp
                  { kind := .xferReply, tag := f.tag, dest := 0, source := BitVec.ofNat 4 (i.val + 1), body := [0x0E] })
        ∧ s.carryFate .discardUp f
            = State.notify { s with up := { s.up with discards := min (s.up.discards + 1) 65535 } } .txDiscard
        ∧ (s.hasPlace q = true → s.carryFate (.place q g) f = joins s q g)
        ∧ (s.hasPlace .dnOwn = true →
            s.carryFate .deny f
              = joins s .dnOwn { kind := .cfgRsp, tag := f.tag, dest := f.source, source := 15, body := [7, 0, 0] })

/-- R151, R152, R158: the routes of frames that are no signals, by kind, destination and agent, and which agents are
present and powered. -/
def Obligations.RoutingTables : Prop :=
  ∀ (s : State) (f : Frame),
    (f.kind = .xfer ∨ f.kind = .xferReply →
      (f.dest = 0 ∨ f.dest = 15 → s.fate .up f = .consume)
        ∧ (f.dest ≠ 0 → f.dest ≠ 15 → s.agentPowered f.dest = true → s.fate .up f = .place .dnFwd f)
        ∧ (f.dest ≠ 0 → f.dest ≠ 15 → s.agentPowered f.dest = false → f.kind = .xfer → f.replyWanted = true →
            s.fate .up f = .noAgent f.dest)
        ∧ (f.dest ≠ 0 → f.dest ≠ 15 → s.agentPowered f.dest = false → f.kind = .xferReply ∨ f.replyWanted = false →
            s.fate .up f = .miss f.dest)
        ∧ (f.dest = 0 → s.up.linkUp = true → s.fate .dn f = .place .upBulk f)
        ∧ (f.dest = 0 → s.up.linkUp = false → s.fate .dn f = .discardUp)
        ∧ (f.dest ≠ 0 → s.fate .dn f = .consume))
      ∧ (f.kind = .cfgWr ∨ f.kind = .cfgRd →
        (f.dest = 15 → s.fate .up f = .place .cfgIn f ∧ s.fate .dn f = .deny)
          ∧ (f.dest ≠ 15 → s.fate .up f = .consume ∧ s.fate .dn f = .consume))
      ∧ (f.kind = .cfgRsp ∨ f.kind = .note → s.fate .up f = .consume ∧ s.fate .dn f = .consume)
      ∧ (∀ (i : Fin 14) (a : BitVec 4), a.toNat = i.val + 1 →
          (s.agentPowered a = true ↔
            (s.agents.get i).present = true ∧ s.dn.linkUp = true
              ∧ ∀ d, (s.agents.get i).powering = some d → (s.dom d).state = .on))

/-- R136, R137, R142: the fate of a signal frame by arrival port, destination and action. The action is that of the one
in-use entry whose key is the frame's arrival port, source agent and signal number, and PASS where no entry has it. -/
def Obligations.SignalFates : Prop :=
  ∀ (s : State) (f g : Frame) (p : Port), f.kind = .sig → g = s.forwarded p f →
    (s.sigAction p f = .drop → s.fate p f = .consume)
      ∧ (s.sigAction p f ≠ .drop →
          (p = .up → f.dest = 0 ∨ f.dest = 15 → s.fate p f = .consume)
            ∧ (p = .up → f.dest ≠ 0 → f.dest ≠ 15 → s.agentPowered f.dest = true → s.fate p f = .place .dnFwd g)
            ∧ (p = .up → f.dest ≠ 0 → f.dest ≠ 15 → s.agentPowered f.dest = false → s.fate p f = .miss f.dest)
            ∧ (p = .dn → f.dest = 0 → s.up.linkUp = true → s.fate p f = .place .upFwdSig g)
            ∧ (p = .dn → f.dest = 0 → s.up.linkUp = false → s.fate p f = .discardUp)
            ∧ (p = .dn → f.dest ≠ 0 → s.fate p f = .consume))
      ∧ (∀ e, s.lookup p f.source f.signal = some e →
          (e.action = .map → g = { f with body := e.newNumber :: f.body.drop 1 }) ∧ (e.action ≠ .map → g = f))
      ∧ (s.lookup p f.source f.signal = none → g = f)
      ∧ (let keyed (i : Fin 64) : Prop :=
          (s.signals.get i).inUse = true ∧ (s.signals.get i).port = p ∧ (s.signals.get i).agent = f.source
            ∧ (s.signals.get i).signal = f.signal
        (∀ i, keyed i → (∀ j, keyed j → j = i) →
            s.findSignal p f.source f.signal = some i ∧ s.lookup p f.source f.signal = some (s.signals.get i)
              ∧ s.sigAction p f = (s.signals.get i).action)
          ∧ ((∀ i, ¬ keyed i) →
            s.findSignal p f.source f.signal = none ∧ s.lookup p f.source f.signal = none ∧ s.sigAction p f = .pass))

/-- R138 to R142: a signal frame that arrives, or that was held and is taken, with its route's place free. It writes its
tracked level, if its entry has TRACK, and goes its way; one that matches no entry writes none. Where its entry
carries flags, their effects are reported in the order GUARD report, REQUEST, TRIP, VETO, RELEASE, WAKE, each before
the frame is forwarded; `u` is what that work comes to. R34, R35, R14, R54, R107: what each report does. VETO and WAKE
of one entry are one report: after the veto's abort the wake finds RETURNING and is captured with effect NONE (R107,
R141); that the rollback begins after it is the model's reading (log 28). -/
def Obligations.SignalIsTrackedAndReported : Prop :=
  (∀ (p : Port) (bytes : List Byte) (f : Frame) (s : State),
    (s.port p).linkUp = true → s.HeadsEmpty → receivedFrame p bytes = some f → f.kind = .sig →
    s.fits (s.fate p f) = true →
    let s1 := s.setPort p { s.port p with head := some f }
    (s.lookup p f.source f.signal = none →
        exec (.frameReceived p bytes) s = .next (s.ends (s.carryFate (s.fate p f) f))
          ∧ exec (.frameTaken p) s1 = .next (s.ends (s.carryFate (s.fate p f) f)))
      ∧ (∀ i : Fin 64, s.findSignal p f.source f.signal = some i →
          let e := s.signals.get i
          let written : State :=
            if e.track then { s with signals := s.signals.set i { e with level := f.level.tracked } } else s
          let reports : List Work :=
            (if e.track then [.levelReport p f.source f.signal f.level] else [])
              ++ (if e.request.isSome then [.requestEffect] else [])
              ++ (if e.trip then [.tripEffect f.level] else [])
              ++ (if e.veto && e.wake.isNone then [.vetoEffect f.level] else [])
              ++ (if e.release then [.releaseEffect f.level] else [])
              ++ (match e.wake with
                | some n => if e.veto then [.vetoWakeEffect n f.level] else [.wakeEffect n f.level]
                | none => [])
          (e.request = none → e.trip = false → e.veto = false → e.release = false → e.wake = none →
              s.ctx.wait = .idle →
              exec (.frameReceived p bytes) s = .next (s.ends (written.carryFate (s.fate p f) f))
                ∧ exec (.frameTaken p) s1 = .next (s.ends (written.carryFate (s.fate p f) f)))
            ∧ ∀ u, comesTo (written, reports ++ [.carry (s.fate p f) f]) u →
                exec (.frameReceived p bytes) s = .next (s.ends u) ∧ exec (.frameTaken p) s1 = .next (s.ends u)))
    ∧ ∀ (p : Port) (a : BitVec 4) (n : Byte) (k : SourceId) (l : Level) (s : State),
      (s.ctx.wait = .level p a n l → micro (.levelReport p a n l) s = s.proceeding)
        ∧ (s.ctx.wait ≠ .level p a n l → micro (.levelReport p a n l) s = (s, []))
        ∧ micro .requestEffect s = s.requestEffect
        ∧ micro (.tripEffect .asserted) s = s.takeTrip .thermal ∧ micro (.tripEffect .deasserted) s = (s, [])
        ∧ (s.platform = .checking ∨ s.platform = .parked → micro (.vetoEffect .asserted) s = s.abort .veto)
        ∧ (s.platform ≠ .checking → s.platform ≠ .parked → micro (.vetoEffect .asserted) s = (s, []))
        ∧ micro (.vetoEffect .deasserted) s = (s, [])
        ∧ (s.ctx.wait = .release → micro (.releaseEffect .asserted) s = s.proceeding)
        ∧ (s.ctx.wait ≠ .release → micro (.releaseEffect .asserted) s = (s, []))
        ∧ micro (.releaseEffect .deasserted) s = (s, [])
        ∧ ((s.wakes.get k).binding = .signal → micro (.wakeEffect k .asserted) s = s.arrival k)
        ∧ ((s.wakes.get k).binding ≠ .signal → micro (.wakeEffect k .asserted) s = (s, []))
        ∧ micro (.wakeEffect k .deasserted) s = (s, [])
        ∧ (s.platform = .checking ∨ s.platform = .parked →
          let a := s.abort .veto
          ((s.wakes.get k).binding = .signal → (s.wakes.get k).enabled = true →
              micro (.vetoWakeEffect k .asserted) s = (a.1.capture k .none, a.2)
                ∧ ((a.1.capture k .none).captures.get k).platform = some .returning
                ∧ ((a.1.capture k .none).captures.get k).effect = .none)
            ∧ ((s.wakes.get k).binding ≠ .signal ∨ (s.wakes.get k).enabled = false →
              micro (.vetoWakeEffect k .asserted) s = a))
        ∧ (s.platform ≠ .checking → s.platform ≠ .parked →
          micro (.vetoWakeEffect k .asserted) s = micro (.wakeEffect k .asserted) s)
        ∧ micro (.vetoWakeEffect k .deasserted) s = (s, [])

/-- R157, R150: FRAME_TAKEN takes the held frame whose route finds its place, be it no signal or a signal that matches
no entry; a frame without its place stays, and an empty head has nothing to take (the model's reading, log 21). At the
end of another event, here the end of a transmission, a held frame whose place is free is taken too, before a NOTE of
that event; where the place opened in that event and another producer waits for it, the model leaves it (log 7). A
waiting SYNC step that this end drains is completed by a command of its own (the model's choice, log 27). -/
def Obligations.FrameTakenTakesHeldFrame : Prop :=
  ∀ (p : Port) (s : State),
    (s.HeadsEmpty → exec (.frameTaken p) s = .next (s.ends s))
      ∧ (∀ f, (s.port p).head = some f → (∀ r, r ≠ p → (s.port r).head = none) →
          f.kind ≠ .sig ∨ s.lookup p f.source f.signal = none → s.fits (s.fate p f) = true →
          exec (.frameTaken p) s
            = .next (s.ends ((s.setPort p { s.port p with head := none }).carryFate (s.fate p f) f)))
      ∧ (∀ f, (s.port p).head = some f → s.fits (s.fate p f) = false → s.Settled →
          exec (.frameTaken p) s = .next s)
      ∧ (∀ f r, (s.port p).head = some f → (∀ r, r ≠ p → (s.port r).head = none) →
          let v := (s.setPort r { s.port r with sending := none }).chooseBoth
          f.kind ≠ .sig ∨ v.lookup p f.source f.signal = none → v.fits (v.fate p f) = true →
          ((v.fate p f).queue = some .upRsp →
            s.queues.upRsp.length < 4 ∨ s.notices.owed = false ∧ s.queues.cfgIn = []) →
          ((v.fate p f).queue = some .dnOwn →
            s.queues.dnOwn.length < 8 ∨ ∀ n l, s.ctx.wait ≠ .space .dn n l ∧ s.ctx.wait ≠ .rollbackSpace .dn n l) →
          exec (.transmissionEnd r) s
            = .next (s.ends ((v.setPort p { v.port p with head := none }).carryFate (v.fate p f) f)))

/-- R187: a CFG_WR or CFG_RD at the DN head for agent 15 is answered DENIED from its header alone, and nothing else
is written, read or executed. -/
def Obligations.DeniedReplyToSegment : Prop :=
  ∀ (f : Frame) (s : State),
    s.dn.head = some f → s.up.head = none → f.kind = .cfgWr ∨ f.kind = .cfgRd → f.dest = 15 →
    s.queues.dnOwn.length < 8 →
    exec (.frameTaken .dn) s
      = .next (s.ends { s with
          dn := { s.dn with head := none },
          queues := { s.queues with
            dnOwn := s.queues.dnOwn
              ++ [{ kind := .cfgRsp, tag := f.tag, dest := f.source, source := 15, body := [7, 0, 0] }] } })

/-- R159, R163: a frame from UP for an absent or unpowered agent counts a miss of the agent when it is taken. A transfer
that wants a reply is answered with NO_AGENT where UP-RSP has a place; a transfer that wants none, a reply, and a
signal under PASS, here one that matches no entry, are consumed. R161: a LINK_DOWN of DN makes every agent unpowered:
a transfer held at UP is then answered in its event; the partner's ready keeps its level (the model's reading, log 23). -/
def Obligations.TransferToUnpoweredAgent : Prop :=
  ∀ (f : Frame) (i : Fin 14) (s : State),
    s.up.head = some f → s.dn.head = none → f.dest.toNat = i.val + 1 →
    let taken (t : State) : State := State.notify { t with
      up := { t.up with head := none },
      agents := t.agents.set i { t.agents.get i with misses := min ((t.agents.get i).misses + 1) 255 } } .agentAbsent
    let answered (t : State) : State := (taken t).setQueue .upRsp ((taken t).queue .upRsp
      ++ [{ kind := .xferReply, tag := f.tag, dest := 0, source := f.dest, body := [0x0E] }])
    (s.agentPowered f.dest = false → f.kind = .xfer → f.replyWanted = true → s.queues.upRsp.length < 4 →
        exec (.frameTaken .up) s = .next (s.ends (answered s)))
      ∧ (s.agentPowered f.dest = false →
          f.kind = .xfer ∧ f.replyWanted = false ∨ f.kind = .xferReply
            ∨ f.kind = .sig ∧ s.lookup .up f.source f.signal = none →
          exec (.frameTaken .up) s = .next (s.ends (taken s)))
      ∧ (s.dn.linkUp = true → f.kind = .xfer → f.replyWanted = true → s.queues.upRsp.length < 4 →
          (∀ n l, s.ctx.wait ≠ .space .dn n l ∧ s.ctx.wait ≠ .rollbackSpace .dn n l) → s.ctx.wait ≠ .drain .dn →
          exec (.linkDown .dn) s
            = .next (s.ends (answered (State.chooseBoth (State.notify { s with
                dn := { s.dn with linkUp := false, sending := none,
                                  discards := min (s.dn.discards + s.flushCount .dn) 65535 },
                queues := { s.queues with dnOwn := [], dnFwd := [] } } .txDiscard)))))

/-- R191: an owed NOTE is built and queued when UP is UP and UP-RSP has a free place, and the mark is cleared;
NOTE_QUEUED with no NOTE to queue changes nothing (the model's reading, log 21). At the end of an event in which no
transmitter chooses, it is queued where the event set the mark, or where no request waits for the place. R190: a flag
that goes from clear to set while its enable is on makes a NOTE owed; a flag already set, or one whose enable is off,
leaves the mark as it is. R189: the flags' numbers. The most significant byte of a NOTE's two masks stands first (the
model's reading, log 29), and the NOTE comes last in its event (the model's choice, logs 6 and 7). -/
def Obligations.OwedNoteIsQueued : Prop :=
  (∀ s : State,
    let queued : State := { s with
      notices := { s.notices with owed := false },
      queues := { s.queues with
        upRsp := s.queues.upRsp
          ++ [{ kind := .note, tag := 0, dest := 0, source := 15,
                body := fieldBytes 1 s.platform.code ++ fieldBytes 2 s.notices.flags.toNat
                  ++ fieldBytes 2 ((List.finRange 10).map fun d => if (s.dom d).change then 2 ^ d.val else 0).sum
                  ++ fieldBytes 1 (wakeCauseCode s.wakeCause) }] } }
    (s.HeadsEmpty → s.notices.owed = true → s.up.linkUp = true → s.queues.upRsp.length < 4 →
        exec .noteQueued s = .next (s.ends queued))
      ∧ (s.HeadsEmpty → s.notices.owed = false ∨ s.up.linkUp = false ∨ 4 ≤ s.queues.upRsp.length →
        exec .noteQueued s = .next (s.ends s))
      ∧ ∀ owed, s.up.partnerReady = false → s.dn.partnerReady = false →
          s.endEvent owed
            = if s.notices.owed = true ∧ s.up.linkUp = true ∧ s.queues.upRsp.length < 4
                ∧ (owed = false ∨ s.queues.cfgIn = []) then queued else s)
    ∧ (∀ (n : Notice) (s : State), ∃ u : NoticeUnit, s.notify n = { s with notices := u }
        ∧ u.enables = s.notices.enables
        ∧ (∀ j, u.flags.getLsbD j = (s.notices.flags.getLsbD j || j == n.bit))
        ∧ (s.notices.flags.getLsbD n.bit = false → s.notices.enables.getLsbD n.bit = true → u.owed = true)
        ∧ (s.notices.flags.getLsbD n.bit = true ∨ s.notices.enables.getLsbD n.bit = false →
            u.owed = s.notices.owed))
    ∧ ([.stateChanged, .domainChanged, .entryAborted, .tripped, .wakeCaptured, .captureOverwrite, .pinnedHit,
        .strayPower, .agentAbsent, .linkError, .applyDone, .requestRefused, .rampOutOfWindow, .stepFailed,
        .txDiscard] : List Notice).map Notice.bit = List.range 15

/-! ## Transition sequencer -/

/-- R32, R42, R43: an emission of an EMIT step: the frame in the own queue of an UP port, the discard at a DOWN port,
the emitted-level map, and the undo record. -/
def Obligations.EmissionWritesQueueMapAndUndo : Prop :=
  ∀ (p : Port) (sig : Byte) (l : Level) (s : State),
    (s.emitStep p sig l).emitted p sig = l
      ∧ (∀ r n, (r ≠ p ∨ n ≠ sig) → (s.emitStep p sig l).emitted r n = s.emitted r n)
      ∧ ((s.port p).linkUp = true → s.hasPlace (ownQueue p) = true →
          (s.emitStep p sig l).queue (ownQueue p)
              = s.queue (ownQueue p)
                ++ [{ kind := .sig, tag := 0, dest := 0, source := 15,
                      body := [sig, match l with | .asserted => 1 | .deasserted => 0] }]
            ∧ (s.emitStep p sig l).port p = s.port p)
      ∧ ((s.port p).linkUp = false →
          (s.emitStep p sig l).queue (ownQueue p) = s.queue (ownQueue p)
            ∧ ((s.emitStep p sig l).port p).discards = min ((s.port p).discards + 1) 65535
            ∧ (s.emitStep p sig l).notices = s.notices.raise .txDiscard)
      ∧ (s.emitted p sig = l ∨ s.ctx.portion ≠ .check → (s.emitStep p sig l).undo = s.undo)
      ∧ (s.emitted p sig ≠ l → s.ctx.portion = .check →
          (∀ prior, UndoRecord.signal p sig prior ∉ s.undo) →
          (s.emitStep p sig l).undo = .signal p sig (s.emitted p sig) :: s.undo)
      ∧ (∀ prior, UndoRecord.signal p sig prior ∈ s.undo → (s.emitStep p sig l).undo = s.undo)

/-- R24, R25, R27 to R30, R43: how a plan's ENABLE, DISABLE, AWAIT_GOOD or AWAIT_LOW step starts. The context takes its
index, its counter, the tick and its budget, which is the stored one or the learned one; the step completes, fails by
its failure action, or waits; with a budget of 0 the wait expires at once. A change of a domain in the check portion
leaves one undo record. PARKED is left when a step completes. -/
def Obligations.DomainStepsStart : Prop :=
  (∀ (d : DomainId) (i : Nat) (t : Step) (s : State),
    (s.runningPlan.bind fun p => p.step? i) = some t → t.place = .domain d →
    let n : Nat := match t.unit with
      | .fine | .milli => t.budget
      | .learned =>
        if t.kind = .awaitLow then learnedBudget (s.dom d).fallAvg (s.cfg d).fallMin (s.cfg d).fallMax
        else learnedBudget (s.dom d).riseAvg (s.cfg d).riseMin (s.cfg d).riseMax
    let b : State := { s with ctx := { s.ctx with
      index := i, clock := if t.unit = .milli then .milli else .fine,
      startTick := if t.unit = .milli then s.milli else s.fine, budget := some n, wait := .idle } }
    let unrecorded : Prop :=
      s.ctx.portion = .check ∧ UndoRecord.domain d true ∉ s.undo ∧ UndoRecord.domain d false ∉ s.undo
    (t.kind = .enable →
        let e := b.enableEffect d .accepted
        (s.judgeEnable d = .accepted → (s.dom d).state.enabled = true → micro (.start i) s = b.proceeding)
          ∧ (s.judgeEnable d = .accepted → (s.dom d).state.enabled = false → unrecorded →
            micro (.start i) s
              = ((State.proceeding { e.1 with undo := .domain d false :: s.undo }).1, e.2 ++ [.start (i + 1)]))
          ∧ (s.judgeEnable d = .accepted → (s.dom d).state.enabled = false → ¬ unrecorded →
            micro (.start i) s = (e.1.proceeding.1, e.2 ++ [.start (i + 1)]))
          ∧ (s.judgeEnable d = .dependency ∨ s.judgeEnable d = .stillPowered → micro (.start i) s = b.failing t i)
          ∧ (s.judgeEnable d = .deferred →
            (n ≠ 0 → micro (.start i) s = (b.setWait (.enable d), [])) ∧ (n = 0 → micro (.start i) s = b.failing t i)))
      ∧ (t.kind = .disable →
        let e := b.disableEffect d
        (s.disableRefused d = true → micro (.start i) s = b.failing t i)
          ∧ (s.disableRefused d = false → (s.cfg d).pinned = false → (s.dom d).state.enabled = true → unrecorded →
            micro (.start i) s
              = ((State.proceeding { e.1 with undo := .domain d true :: s.undo }).1, e.2 ++ [.start (i + 1)]))
          ∧ (s.disableRefused d = false → (s.cfg d).pinned = true ∨ (s.dom d).state.enabled = false ∨ ¬ unrecorded →
            micro (.start i) s = (e.1.proceeding.1, e.2 ++ [.start (i + 1)])))
      ∧ (t.kind = .awaitGood →
        ((s.dom d).state = .on → micro (.start i) s = b.proceeding)
          ∧ ((s.dom d).state ≠ .on → n ≠ 0 → micro (.start i) s = (b.setWait (.good d), []))
          ∧ ((s.dom d).state ≠ .on → (s.dom d).state ≠ .rising → n = 0 →
            micro (.start i) s = (b.timeoutCounted d).failing t i)
          ∧ ((s.dom d).state = .rising → n = 0 →
            let f := (b.timeoutCounted d).faultDomain d .timeout
            micro (.start i) s = ((f.1.failing t i).1, (f.1.failing t i).2 ++ f.2)))
      ∧ (t.kind = .awaitLow →
        ((s.dom d).state = .off → micro (.start i) s = b.proceeding)
          ∧ ((s.dom d).state ≠ .off → n ≠ 0 → micro (.start i) s = (b.setWait (.low d), []))
          ∧ ((s.dom d).state ≠ .off → n = 0 → micro (.start i) s = (b.timeoutCounted d).failing t i)))
    ∧ ∀ s : State,
      (s.platform = .parked → s.leavePark = State.notify { s with platform := .checking } .stateChanged)
        ∧ (s.platform ≠ .parked → s.leavePark = s)

/-- R24, R25, R31 to R37: how a plan's other steps start. EMIT places its frame, or waits for space; SYNC waits for its
port to drain; GUARD compares the tracked level of its key, and fails where no in-use TRACK entry has it; DELAY waits its
budget; PARK enters PARKED and waits for the hub's release, without a limit where its limit is 0; COMMIT passes the point
of no return and empties the undo stack; RETRY goes back while the failure mark is set and its counter lasts. With a
budget of 0 a wait expires at once. Past the last step the plan completes. An EMIT, SYNC or GUARD step of unit LEARNED,
which R168 keeps out of the active set, takes its stored budget (the model's choice, log 15). -/
def Obligations.OtherStepsStart : Prop :=
  ∀ (i : Nat) (t : Step) (s : State), (s.runningPlan.bind fun p => p.step? i) = some t →
    let begun (n : Option Nat) : State := { s with ctx := { s.ctx with
      index := i, clock := if t.unit = .milli then .milli else .fine,
      startTick := if t.unit = .milli then s.milli else s.fine, budget := n, wait := .idle } }
    let b : State := begun (some t.budget)
    (∀ p, t.place = .port p →
        let own := s.queue (ownQueue p)
        let full : Prop := (s.port p).linkUp = true ∧ 8 ≤ own.length
        let busy : Prop := (s.port p).linkUp = true ∧ (own ≠ [] ∨ ∃ f, (s.port p).sending = some (ownQueue p, f))
        (t.kind = .emit →
            (¬ full → micro (.start i) s = (b.emitStep p t.signal t.level).proceeding)
              ∧ (full → t.budget ≠ 0 → micro (.start i) s = (b.setWait (.space p t.signal t.level), []))
              ∧ (full → t.budget = 0 → micro (.start i) s = b.failing t i))
          ∧ (t.kind = .sync →
            (¬ busy → micro (.start i) s = b.proceeding)
              ∧ (busy → t.budget ≠ 0 → micro (.start i) s = (b.setWait (.drain p), []))
              ∧ (busy → t.budget = 0 → micro (.start i) s = b.failing t i))
          ∧ (t.kind = .guard →
            (s.lookup p t.agent t.signal = none → micro (.start i) s = b.failing t i)
              ∧ ∀ e, s.lookup p t.agent t.signal = some e →
                (e.track = false → micro (.start i) s = b.failing t i)
                  ∧ (e.track = true → e.level = t.level.tracked → micro (.start i) s = b.proceeding)
                  ∧ (e.track = true → e.level ≠ t.level.tracked →
                    (t.budget ≠ 0 → micro (.start i) s = (b.setWait (.level p t.agent t.signal t.level), []))
                      ∧ (t.budget = 0 → micro (.start i) s = b.failing t i))))
      ∧ (t.unit ≠ .learned →
        (t.kind = .delay →
            (t.budget ≠ 0 → micro (.start i) s = (b.setWait .delay, []))
              ∧ (t.budget = 0 → micro (.start i) s = b.proceeding))
          ∧ (t.kind = .park → s.platform = .checking →
            micro (.start i) s
              = (State.notify { s with
                  platform := .parked,
                  ctx := { (begun (if t.budget = 0 then none else some t.budget)).ctx with wait := .release } }
                  .stateChanged, []))
          ∧ (t.kind = .commit → s.platform = .checking →
            micro (.start i) s
              = (State.notify { s with
                  platform := .committing, undo := [], ctx := { b.ctx with portion := .commit } } .stateChanged,
                [.start (i + 1)]))
          ∧ (t.kind = .retry →
            (s.ctx.failMark = false → micro (.start i) s = b.proceeding)
              ∧ ∀ j : Fin 32, j.val = i → s.ctx.failMark = true →
                (0 < s.ctx.retries.get j →
                    micro (.start i) s
                      = ({ b with ctx := { b.ctx with
                            failMark := false, retries := s.ctx.retries.set j (s.ctx.retries.get j - 1) } },
                         [.start t.retryTarget]))
                  ∧ (s.ctx.retries.get j = 0 → micro (.start i) s = b.failing t i)))
      ∧ ∀ k, (s.runningPlan.bind fun p => p.step? k) = none → micro (.start k) s = s.completePlan

/-- R32, R24: a waiting EMIT step whose port is UP and whose queue has opened places its frame and completes; `u` is
what the plan goes on to, and where the step after it is a DELAY, it waits in it. Where no EMIT step waits, or there is
no space, nothing is placed (the model's reading, log 21). -/
def Obligations.WaitingEmitIsPlaced : Prop :=
  ∀ (p : Port) (sig : Byte) (l : Level) (t : Step) (s : State), s.HeadsEmpty →
    (s.ctx.wait = .space p sig l → (s.port p).linkUp = true → (s.queue (ownQueue p)).length < 8 →
        (s.delaysAt (s.ctx.index + 1) t →
          exec .emitFramePlaced s
            = .next (s.ends ((((s.emitStep p sig l).setWait .idle).leavePark).delaying (s.ctx.index + 1) t)))
        ∧ ∀ u, comesTo (s.emitStep p sig l).proceeding u → exec .emitFramePlaced s = .next (s.ends u))
      ∧ ((∀ r n m, s.ctx.wait ≠ .space r n m) → exec .emitFramePlaced s = .next (s.ends s))
      ∧ (s.ctx.wait = .space p sig l → 8 ≤ (s.queue (ownQueue p)).length →
          exec .emitFramePlaced s = .next (s.ends s))

/-- R33, R24: a waiting SYNC step completes when its port's own queue is empty and no frame of it is being sent; `u` is
what the plan goes on to, and where the step after it is a DELAY, it waits in it. Until then, and where no SYNC step
waits, nothing happens (the model's reading, log 21). That the completion is an event of its own is the model's choice
(log 27). -/
def Obligations.WaitingSyncCompletes : Prop :=
  ∀ (p : Port) (t : Step) (s : State), s.HeadsEmpty →
    (s.ctx.wait = .drain p → s.queue (ownQueue p) = [] → (∀ f, (s.port p).sending ≠ some (ownQueue p, f)) →
        (s.delaysAt (s.ctx.index + 1) t →
          exec .syncComplete s = .next (s.ends (((s.setWait .idle).leavePark).delaying (s.ctx.index + 1) t)))
        ∧ ∀ u, comesTo s.proceeding u → exec .syncComplete s = .next (s.ends u))
      ∧ (s.ctx.wait = .drain p →
          s.queue (ownQueue p) ≠ [] ∨ (∃ f, (s.port p).sending = some (ownQueue p, f)) →
          exec .syncComplete s = .next (s.ends s))
      ∧ ((∀ r, s.ctx.wait ≠ .drain r) → exec .syncComplete s = .next (s.ends s))

/-- R25, R31, R39 to R41, R77: BUDGET_EXPIRY. A DELAY completes; a step that waited for a hold-off, for space, for a
drain or for a level fails by its failure action; an AWAIT_LOW counts a timeout besides; an AWAIT_GOOD whose domain is
not RISING does the same, and one whose domain is RISING faults it with TIMEOUT, its own failure coming before the
reports (R29, R76); `u` is what the plan goes on to. Spelled out under CONTINUE where the step after it is a DELAY. A
budget not over, or none, ends no wait (the model's reading, log 3). -/
def Obligations.BudgetExpiryEndsTheWait : Prop :=
  ∀ (st t : Step) (s : State), s.HeadsEmpty →
    (s.ctx.wait = .delay → s.BudgetOver →
        (s.delaysAt (s.ctx.index + 1) t →
          exec .budgetExpiry s = .next (s.ends (((s.setWait .idle).leavePark).delaying (s.ctx.index + 1) t)))
        ∧ ∀ u, comesTo s.proceeding u → exec .budgetExpiry s = .next (s.ends u))
      ∧ ((∃ d, s.ctx.wait = .enable d) ∨ (∃ p n l, s.ctx.wait = .space p n l) ∨ (∃ p, s.ctx.wait = .drain p)
            ∨ (∃ p a n l, s.ctx.wait = .level p a n l) →
          s.BudgetOver → s.currentStep = some st →
          (∀ u, comesTo (s.failing st s.ctx.index) u → exec .budgetExpiry s = .next (s.ends u))
          ∧ (st.action = .cont → s.delaysAt (s.ctx.index + 1) t →
            ∃ u, exec .budgetExpiry s = .next (s.ends u)
              ∧ u.ctx.failMark = true ∧ u.ctx.index = s.ctx.index + 1 ∧ u.ctx.wait = .delay
              ∧ u.notices = (s.leavePark).notices.raise .stepFailed
              ∧ u.domains = s.domains ∧ u.queues = s.queues ∧ u.undo = s.undo ∧ u.signals = s.signals
              ∧ (∀ p n, u.emitted p n = s.emitted p n)))
      ∧ (∀ d, s.ctx.wait = .low d ∨ s.ctx.wait = .good d ∧ (s.dom d).state ≠ .rising →
          s.BudgetOver → s.currentStep = some st →
          (∀ u, comesTo ((s.timeoutCounted d).failing st s.ctx.index) u → exec .budgetExpiry s = .next (s.ends u))
          ∧ (st.action = .cont → s.delaysAt (s.ctx.index + 1) t →
            ∃ u, exec .budgetExpiry s = .next (s.ends u)
              ∧ u.ctx.failMark = true ∧ u.ctx.index = s.ctx.index + 1 ∧ u.ctx.wait = .delay
              ∧ u.dom d
                  = (if (s.dom d).counting then
                      { s.dom d with stats := { (s.dom d).stats with timeouts := min ((s.dom d).stats.timeouts + 1) 65535 } }
                    else s.dom d)
              ∧ (∀ e, e ≠ d → u.dom e = s.dom e)))
      ∧ (∀ d, s.ctx.wait = .good d → (s.dom d).state = .rising → s.BudgetOver → s.currentStep = some st →
          (∀ u, let faulted := (s.timeoutCounted d).faultDomain d .timeout
            comesTo ((faulted.1.failing st s.ctx.index).1, (faulted.1.failing st s.ctx.index).2 ++ faulted.2) u →
            exec .budgetExpiry s = .next (s.ends u))
          ∧ ((s.cfg d).critical = false →
            (∀ e, e ≠ d → (s.dom e).state.enabled = true → s.descends d 10 e = false) →
            holdOffLength (s.cfg d).holdMin (s.dom d).fallAvg ≠ 0 →
            st.action = .cont → s.delaysAt (s.ctx.index + 1) t →
            ∃ u, exec .budgetExpiry s = .next (s.ends u)
              ∧ u.ctx.failMark = true ∧ u.ctx.index = s.ctx.index + 1 ∧ u.ctx.wait = .delay
              ∧ (u.dom d).state = .fault ∧ (u.dom d).cause = some .timeout ∧ (u.dom d).change = true
              ∧ (u.dom d).overrange = false ∧ (u.dom d).lastRise = (s.dom d).lastRise
              ∧ (u.dom d).riseAvg = (s.dom d).riseAvg
              ∧ (u.dom d).hold = some ⟨s.fine, holdOffLength (s.cfg d).holdMin (s.dom d).fallAvg⟩
              ∧ (∀ e, e ≠ d → u.dom e = s.dom e)))
      ∧ (¬ s.BudgetOver → exec .budgetExpiry s = .next (s.ends s))
      ∧ (s.ctx.wait = .idle ∨ s.ctx.wait = .release → exec .budgetExpiry s = .next (s.ends s))

/-- R35, R39 to R41, R45, R46, R49: PARK_LIMIT fails the PARK step by its failure action; `u` is what that comes to.
Under CONTINUE the platform returns to CHECKING and the plan proceeds, here to a DELAY. Under ABORT the entry aborts
with cause PARK_LIMIT; with an empty undo stack and no apply pending the rollback completes in RUN. Under TRIP, with a
DELAY first in the trip plan, the platform trips with ENTRY_FAILED. A limit not over, or none, ends nothing (the model's
reading, log 3). -/
def Obligations.ParkLimitFailsThePark : Prop :=
  ∀ (st t : Step) (s : State), s.HeadsEmpty →
    (s.ctx.wait = .release → s.BudgetOver → s.currentStep = some st →
        ∀ u, comesTo (s.failing st s.ctx.index) u → exec .parkLimit s = .next (s.ends u))
      ∧ (s.ctx.wait = .release → s.BudgetOver → s.platform = .parked → s.currentStep = some st → st.action = .cont →
        s.delaysAt (s.ctx.index + 1) t →
        ∃ u, exec .parkLimit s = .next (s.ends u)
          ∧ u.platform = .checking ∧ u.ctx.failMark = true ∧ u.ctx.index = s.ctx.index + 1 ∧ u.ctx.wait = .delay
          ∧ u.notices = (s.notices.raise .stateChanged).raise .stepFailed
          ∧ u.domains = s.domains ∧ u.undo = s.undo ∧ u.queues = s.queues)
      ∧ (s.ctx.wait = .release → s.BudgetOver → s.platform = .parked → s.currentStep = some st →
          st.action = .abort → st.kind = .park → s.undo = [] → (∀ k : ItemId, s.applyPending.get k = false) →
          ∃ u, exec .parkLimit s = .next (s.ends u)
            ∧ u.platform = .run ∧ u.lastAbort = some .parkLimit ∧ u.requestStale = (s.requested != .run)
            ∧ u.ctx.slot = none ∧ u.ctx.portion = .none ∧ u.ctx.wait = .idle
            ∧ u.notices = ((s.notices.raise .entryAborted).raise .stateChanged).raise .stateChanged
            ∧ u.domains = s.domains ∧ u.queues = s.queues ∧ u.active = s.active
            ∧ u.requested = s.requested ∧ u.wakeCause = s.wakeCause ∧ u.trip = s.trip)
      ∧ (s.ctx.wait = .release → s.BudgetOver → s.platform = .parked → s.currentStep = some st →
          st.action = .trip → st.kind = .park → s.ctx.slot = some 0 ∨ s.ctx.slot = some 1 ∨ s.ctx.slot = some 2 →
          s.trip.first = none →
          (s.active.plans.get 6).step? 0 = some t → t.kind = .delay → t.unit ≠ .learned → t.budget ≠ 0 →
          ∃ u, exec .parkLimit s = .next (s.ends u)
            ∧ u.platform = .tripping ∧ u.trip.first = some (.entryFailed s.ctx.index)
            ∧ u.ctx.slot = some 6 ∧ u.ctx.portion = .trip ∧ u.ctx.wait = .delay ∧ u.undo = [])
      ∧ (¬ s.BudgetOver → exec .parkLimit s = .next (s.ends s))
      ∧ (s.ctx.wait ≠ .release → exec .parkLimit s = .next (s.ends s))

/-- R49 to R52, R12: the rollback. It takes the top record off the undo stack: a domain that was on is asked to be
enabled, and the record completes at ON, waits for the controller's answer or for ON within the learned rise budget, or
fails; one that was off is asked to be disabled, and the record completes at OFF, waits for OFF within the learned fall
budget, or fails; a signal is emitted, or waits 625 fine ticks for space. A domain's report of ON or OFF completes
the record that waits for it. ROLLBACK_SIGNAL_PLACED: a signal record that waited for space places its frame, restores
the map and completes; `u` is what the rollback goes on to, and with no record left and no apply pending it completes
in RUN. Where no signal record waits, or there is no space, nothing is placed (the model's reading, log 21). -/
def Obligations.RollbackTakesRecords : Prop :=
  (∀ (d : DomainId) (rest : List UndoRecord) (s : State),
    let begun (r : UndoRecord) : State := { s with
      undo := rest,
      ctx := { s.ctx with record := some r, wait := .idle, clock := .fine, startTick := s.fine } }
    let waits (t : State) (w : Wait) (n : Nat) : State := { t with ctx := { t.ctx with wait := w, budget := some n } }
    (s.undo = .domain d true :: rest →
        let b := begun (.domain d true)
        let e := b.enableEffect d .accepted
        (b.judgeEnable d = .accepted → (e.1.dom d).state = .on →
            micro .rollback s = (e.1.recordOver.1, e.2 ++ e.1.recordOver.2))
          ∧ (b.judgeEnable d = .accepted → (e.1.dom d).state ≠ .on → e.1.riseBudget d ≠ 0 →
            micro .rollback s = (waits e.1 (.rollbackGood d) (e.1.riseBudget d), e.2))
          ∧ (b.judgeEnable d = .accepted → (e.1.dom d).state ≠ .on → e.1.riseBudget d = 0 →
            let f := ((waits e.1 (.rollbackGood d) 0).timeoutCounted d).faultDomain d .timeout
            micro .rollback s = (f.1.recordFails.1, e.2 ++ (f.1.recordFails.2 ++ f.2)))
          ∧ (b.judgeEnable d = .dependency ∨ b.judgeEnable d = .stillPowered → micro .rollback s = b.recordFails)
          ∧ (b.judgeEnable d = .deferred →
            micro .rollback s = ({ b with ctx := { b.ctx with wait := .rollbackEnable d, budget := none } }, [])))
      ∧ (s.undo = .domain d false :: rest →
        let b := begun (.domain d false)
        let e := b.disableEffect d
        (b.disableRefused d = true → micro .rollback s = b.recordFails)
          ∧ (b.disableRefused d = false → (s.cfg d).pinned = true ∨ (e.1.dom d).state = .off →
            micro .rollback s = (e.1.recordOver.1, e.2 ++ e.1.recordOver.2))
          ∧ (b.disableRefused d = false → (s.cfg d).pinned = false → (e.1.dom d).state ≠ .off →
            e.1.fallBudget d ≠ 0 →
            micro .rollback s = (waits e.1 (.rollbackLow d) (e.1.fallBudget d), e.2))
          ∧ (b.disableRefused d = false → (s.cfg d).pinned = false → (e.1.dom d).state ≠ .off →
            e.1.fallBudget d = 0 →
            let f := ((waits e.1 (.rollbackLow d) 0).timeoutCounted d).recordFails
            micro .rollback s = (f.1, e.2 ++ f.2)))
      ∧ (∀ p sig l, s.undo = .signal p sig l :: rest →
        let b := begun (.signal p sig l)
        let frame : Frame :=
          { kind := .sig, tag := 0, dest := 0, source := 15,
            body := [sig, match l with | .asserted => 1 | .deasserted => 0] }
        ((s.port p).linkUp = true → (s.queue (ownQueue p)).length < 8 →
            micro .rollback s
              = State.recordOver ((b.setQueue (ownQueue p) (s.queue (ownQueue p) ++ [frame])).setEmitted p sig l))
          ∧ ((s.port p).linkUp = false →
            micro .rollback s
              = State.recordOver ((State.notify
                  (b.setPort p { s.port p with discards := min ((s.port p).discards + 1) 65535 }) .txDiscard).setEmitted
                p sig l))
          ∧ ((s.port p).linkUp = true → 8 ≤ (s.queue (ownQueue p)).length →
            micro .rollback s = (waits b (.rollbackSpace p sig l) 625, [])))
      ∧ (s.undo = [] → micro .rollback s = s.completePlan)
      ∧ (s.ctx.wait = .rollbackGood d → micro (.onReport d) s = s.recordOver)
      ∧ (s.ctx.wait = .rollbackLow d → micro (.offReport d) s = s.recordOver))
    ∧ ∀ (p : Port) (sig : Byte) (l : Level) (s : State), s.HeadsEmpty →
      let frame : Frame :=
        { kind := .sig, tag := 0, dest := 0, source := 15,
          body := [sig, match l with | .asserted => 1 | .deasserted => 0] }
      (s.ctx.wait = .rollbackSpace p sig l → (s.port p).linkUp = true → (s.queue (ownQueue p)).length < 8 →
          (∀ u, comesTo
              (State.recordOver ((s.setQueue (ownQueue p) (s.queue (ownQueue p) ++ [frame])).setEmitted p sig l)) u →
            exec .rollbackSignalPlaced s = .next (s.ends u))
          ∧ (s.ctx.portion = .rollback → s.platform = .returning → s.undo = [] →
            (∀ k : ItemId, s.applyPending.get k = false) →
            ∃ u, exec .rollbackSignalPlaced s = .next (s.ends u)
              ∧ u.platform = .run ∧ u.ctx.slot = none ∧ u.ctx.record = none ∧ u.ctx.wait = .idle
              ∧ u.requestStale = (s.requested != .run)
              ∧ u.emitted p sig = l ∧ (∀ r n, (r ≠ p ∨ n ≠ sig) → u.emitted r n = s.emitted r n)
              ∧ u.queue (ownQueue p) = s.queue (ownQueue p) ++ [frame]
              ∧ u.domains = s.domains ∧ u.notices = s.notices.raise .stateChanged))
        ∧ ((∀ r n m, s.ctx.wait ≠ .rollbackSpace r n m) → exec .rollbackSignalPlaced s = .next (s.ends s))
        ∧ (s.ctx.wait = .rollbackSpace p sig l → 8 ≤ (s.queue (ownQueue p)).length →
            exec .rollbackSignalPlaced s = .next (s.ends s))

/-- R50 to R53, R55, R56, R77: ROLLBACK_WAIT_EXPIRY fails the rollback, which trips the platform with cause
ROLLBACK_FAILED; `u` is what that comes to. A record that waits for OFF counts a timeout; so does one that waits for
ON, and where its domain is RISING that faults with TIMEOUT, the trip coming before its reports. Spelled out for a
signal record, where step 0 of the trip plan is a DELAY: the map keeps the level. A budget not over trips nothing (the
model's reading, log 3). -/
def Obligations.RollbackExpiryTrips : Prop :=
  ∀ (p : Port) (sig : Byte) (l : Level) (d : DomainId) (t : Step) (s : State), s.HeadsEmpty →
    (s.ctx.wait = .rollbackSpace p sig l → s.BudgetOver → s.platform = .returning →
        (s.active.plans.get 6).step? 0 = some t → t.kind = .delay → t.unit ≠ .learned → t.budget ≠ 0 →
        ∃ u, exec .rollbackWaitExpiry s = .next (s.ends u)
          ∧ u.platform = .tripping ∧ u.ctx.slot = some 6 ∧ u.ctx.portion = .trip ∧ u.ctx.index = 0
          ∧ u.ctx.wait = .delay ∧ u.ctx.record = none ∧ u.ctx.tripTarget = some .tripped
          ∧ u.undo = [] ∧ u.pendingWake = none ∧ u.pendingRequest = false ∧ u.requestStale = false
          ∧ u.trip = (match s.trip.first with
              | none => { s.trip with first := some .rollbackFailed }
              | some _ => { s.trip with secondary := min (s.trip.secondary + 1) 255 })
          ∧ u.emittedUp = s.emittedUp ∧ u.emittedDn = s.emittedDn ∧ u.domains = s.domains
          ∧ u.wakeCause = s.wakeCause ∧ u.lastAbort = s.lastAbort)
      ∧ (∀ u, s.ctx.wait = .rollbackSpace p sig l → s.BudgetOver → comesTo s.recordFails u →
          exec .rollbackWaitExpiry s = .next (s.ends u))
      ∧ (∀ u, s.ctx.wait = .rollbackLow d ∨ s.ctx.wait = .rollbackGood d ∧ (s.dom d).state ≠ .rising → s.BudgetOver →
          comesTo (s.timeoutCounted d).recordFails u → exec .rollbackWaitExpiry s = .next (s.ends u))
      ∧ (∀ u, s.ctx.wait = .rollbackGood d → (s.dom d).state = .rising → s.BudgetOver →
          let faulted := (s.timeoutCounted d).faultDomain d .timeout
          comesTo (faulted.1.recordFails.1, faulted.1.recordFails.2 ++ faulted.2) u →
          exec .rollbackWaitExpiry s = .next (s.ends u))
      ∧ (¬ s.BudgetOver → exec .rollbackWaitExpiry s = .next (s.ends s))
      ∧ (s.ctx.wait = .idle → exec .rollbackWaitExpiry s = .next (s.ends s))

/-- R54 to R57: what a trip cause does by platform state: it starts the trip plan with its target, and in TRIPPING and
TRIPPED it is counted, an OVERRIDE target giving way to a later cause of another kind. -/
def Obligations.TripCauseByPlatformState : Prop :=
  ∀ (c : TripCause) (s : State),
    let record : TripRecord := match s.trip.first with
      | none => { first := some c, secondary := s.trip.secondary }
      | some f => { first := some f, secondary := min (s.trip.secondary + 1) 255 }
    (s.platform ≠ .tripping → s.platform ≠ .tripped →
        (s.takeTrip c).2 = [.start 0]
          ∧ (s.takeTrip c).1.platform = .tripping ∧ (s.takeTrip c).1.trip = record
          ∧ (s.takeTrip c).1.ctx.slot = some 6 ∧ (s.takeTrip c).1.ctx.index = 0
          ∧ (s.takeTrip c).1.ctx.portion = .trip ∧ (s.takeTrip c).1.ctx.failMark = false
          ∧ (s.takeTrip c).1.ctx.wait = .idle ∧ (s.takeTrip c).1.ctx.record = none
          ∧ (s.takeTrip c).1.ctx.tripTarget = some (if c = .override then .softOff else .tripped)
          ∧ (s.takeTrip c).1.undo = [] ∧ (s.takeTrip c).1.pendingWake = none
          ∧ (s.takeTrip c).1.pendingRequest = false ∧ (s.takeTrip c).1.requestStale = false
          ∧ (s.takeTrip c).1.notices = (s.notices.raise .stateChanged).raise .tripped
          ∧ (s.takeTrip c).1.wakeCause = s.wakeCause ∧ (s.takeTrip c).1.lastAbort = s.lastAbort
          ∧ (s.takeTrip c).1.domains = s.domains ∧ (s.takeTrip c).1.requested = s.requested)
      ∧ (s.platform = .tripped → s.takeTrip c = ({ s with trip := record }, []))
      ∧ (s.platform = .tripping →
          s.takeTrip c = ({ s with
            trip := record,
            ctx := { s.ctx with
              tripTarget := if c = .override then s.ctx.tripTarget else s.ctx.tripTarget.map fun _ => .tripped } }, []))

/-- R4 to R11, Table 1-3: the requested state is the deepest that an in-use REQUEST entry of the table asks for at
level ASSERTED, or RUN. A REQUEST effect stores it; an unchanged one does nothing; a changed one clears the stale mark
and is acted on by the platform state. -/
def Obligations.RequestEffectByPlatformState : Prop :=
  (∀ s : State,
    let asks (t : LowState) : Prop :=
      ∃ i : Fin 64, (s.signals.get i).inUse = true ∧ (s.signals.get i).request = some t
        ∧ (s.signals.get i).level = .asserted
    (asks .off → s.computeRequested = .low .off)
      ∧ (¬ asks .off → asks .hibernate → s.computeRequested = .low .hibernate)
      ∧ (¬ asks .off → ¬ asks .hibernate → asks .suspend → s.computeRequested = .low .suspend)
      ∧ (¬ asks .off → ¬ asks .hibernate → ¬ asks .suspend → s.computeRequested = .run))
  ∧ ∀ (t : LowState) (s : State),
    (s.computeRequested = s.requested → s.requestEffect = (s, []))
      ∧ (s.requested ≠ .run → s.computeRequested = .run →
          (s.platform = .run ∨ s.platform = .waking ∨ s.platform = .returning ∨ s.platform = .tripping
              ∨ s.platform = .tripped →
            s.requestEffect = ({ s with requested := .run, requestStale := false }, []))
          ∧ (s.platform = .committing →
            s.requestEffect = ({ s with
              requested := .run, requestStale := false,
              pendingWake := match s.pendingWake with | some c => some c | none => some .hub }, []))
          ∧ (s.platform = .checking ∨ s.platform = .parked →
            s.requestEffect = State.abort { s with requested := .run, requestStale := false } .cancel)
          ∧ (s.platform = .suspended ∨ s.platform = .hibernated ∨ s.platform = .softOff →
            s.requestEffect = State.startExit { s with requested := .run, requestStale := false } .hub))
      ∧ (s.requested ≠ .low t → s.computeRequested = .low t →
          (s.platform = .run →
            s.requestEffect = State.startEntry { s with requested := .low t, requestStale := false } t)
          ∧ (s.platform = .waking →
            s.requestEffect = ({ s with requested := .low t, requestStale := false, pendingRequest := true }, []))
          ∧ (s.platform = .returning →
            s.requestEffect = ({ s with requested := .low t, requestStale := false }, []))
          ∧ (s.platform = .checking ∨ s.platform = .parked →
            s.requestEffect
              = (if s.ctx.slot = some (entrySlot t) then { s with requested := .low t, requestStale := false }
                 else State.notify { s with requested := .low t, requestStale := false } .requestRefused, []))
          ∧ (s.platform = .committing ∨ s.platform = .suspended ∨ s.platform = .hibernated ∨ s.platform = .softOff
              ∨ s.platform = .tripping ∨ s.platform = .tripped →
            s.requestEffect
              = (State.notify { s with requested := .low t, requestStale := false } .requestRefused, [])))

/-- R2, R3, R13, R18, R23, R46, R130: an entry start sets up its plan's context and makes the veto test before step 0:
the entry aborts where an in-use VETO entry of the table reads ASSERTED. An exit start sets up its plan's context,
writes the wake cause, and begins with step 0, or with a wait where a present pinned domain is RISING; the indicator
leaves the rest state's pattern. An abort of a running entry records its cause, and the rollback begins. -/
def Obligations.EntryAndExitStarts : Prop :=
  (∀ (t : LowState) (s : State), s.platform = .run →
    let veto : Prop :=
      ∃ i : Fin 64, (s.signals.get i).inUse = true ∧ (s.signals.get i).veto = true
        ∧ (s.signals.get i).level = .asserted
    (¬ veto →
        (s.startEntry t).2 = [.start 0] ∧ (s.startEntry t).1.platform = .checking
          ∧ (s.startEntry t).1.ctx.slot = some (match t with | .suspend => 0 | .hibernate => 1 | .off => 2)
          ∧ (s.startEntry t).1.ctx.portion = .check
          ∧ (s.startEntry t).1.ctx.index = 0 ∧ (s.startEntry t).1.ctx.failMark = false
          ∧ (s.startEntry t).1.undo = []
          ∧ (∀ (i : Fin 32) (st : Step), (s.active.plans.get (entrySlot t)).step? i.val = some st → st.kind = .retry →
              (s.startEntry t).1.ctx.retries.get i = st.retryCount)
          ∧ (s.startEntry t).1.domains = s.domains ∧ (s.startEntry t).1.indicator = s.indicator)
      ∧ (veto →
        (s.startEntry t).2 = [.rollback] ∧ (s.startEntry t).1.platform = .returning
          ∧ (s.startEntry t).1.lastAbort = some .veto ∧ (s.startEntry t).1.ctx.portion = .rollback
          ∧ (s.startEntry t).1.ctx.index = 0 ∧ (s.startEntry t).1.undo = []
          ∧ (s.startEntry t).1.notices
              = ((s.notices.raise .stateChanged).raise .entryAborted).raise .stateChanged))
  ∧ (∀ (c : WakeCause) (s : State),
    s.platform = .suspended ∨ s.platform = .hibernated ∨ s.platform = .softOff ∨ s.platform = .tripped →
    let u := s.startExit c
    let k : Fin 4 := match s.platform with | .suspended => 1 | .tripped => 3 | _ => 2
    let rising : Prop :=
      ∃ d : DomainId, (s.cfg d).present = true ∧ (s.cfg d).pinned = true ∧ (s.dom d).state = .rising
    u.1.platform = .waking ∧ u.1.wakeCause = some c ∧ u.1.ctx.portion = .exit ∧ u.1.ctx.index = 0
      ∧ u.1.ctx.slot = some (match s.platform with | .suspended => 3 | .hibernated => 4 | _ => 5)
      ∧ u.1.ctx.failMark = false ∧ u.1.ctx.record = none ∧ u.1.ctx.tripTarget = none
      ∧ u.1.notices = s.notices.raise .stateChanged
      ∧ u.1.indicator = { s.indicator with
          working := s.indicator.working.set k (s.indicator.buffered.get k), phase := 0, leadIn := true }
      ∧ u.1 = { s with
          platform := .waking, wakeCause := some c, ctx := u.1.ctx, notices := u.1.notices,
          indicator := u.1.indicator }
      ∧ (¬ rising → u.2 = [.start 0] ∧ u.1.ctx.wait = .idle)
      ∧ (rising → u.2 = [] ∧ u.1.ctx.wait = .pinned))
  ∧ ∀ (c : AbortCause) (s : State), s.platform = .checking ∨ s.platform = .parked →
    s.abort c
      = ({ s with
            platform := .returning, lastAbort := some c,
            ctx := { s.ctx with portion := .rollback, wait := .idle },
            notices := (s.notices.raise .entryAborted).raise .stateChanged }, [.rollback])

/-- R15 to R17, R60, R173, R169, R170: the completion of a plan, in the order of R15. The trip plan makes the final sweep.
Then the items with an apply-pending mark are applied, leaving `a`: the domain set first and each plan against the set
as it then stands, each accepted item copied and each outcome written, every mark cleared and APPLY_DONE set; with no
mark nothing happens. Then the state is entered, and the follow-on plan starts with the items just applied. R1, R22,
R127, R130: entering a state sets STATE_CHANGED, releases the context and tests the indicator's selection. -/
def Obligations.PlanCompletionEntersItsState : Prop :=
  (∀ s : State,
    let applied (t a : State) : Prop :=
      ((∀ k : ItemId, t.applyPending.get k = false) → a = t)
        ∧ ((∃ k : ItemId, t.applyPending.get k = true) →
          let accepted : Prop := t.applyPending.get 7 = true ∧ t.judgeDomainSet t.staged.domains = .success
          ∃ base : State, (accepted → base = t.copyDomainSet t.staged.domains) ∧ (¬ accepted → base = t)
            ∧ a = { t with
                active := a.active, domains := base.domains, notices := base.notices.raise .applyDone,
                applyPending := Vector.replicate 8 false, applyStatus := a.applyStatus }
            ∧ (accepted → a.active.domains = t.staged.domains) ∧ (¬ accepted → a.active.domains = t.active.domains)
            ∧ a.applyStatus.get 7
                = (if t.applyPending.get 7 then t.judgeDomainSet t.staged.domains else t.applyStatus.get 7)
            ∧ ∀ k : SlotId,
                let outcome := base.judgePlan k (t.staged.plans.get k)
                a.active.plans.get k
                    = (if t.applyPending.get k.castSucc = true ∧ outcome = .success then t.staged.plans.get k
                       else t.active.plans.get k)
                  ∧ a.applyStatus.get k.castSucc
                    = (if t.applyPending.get k.castSucc then outcome else t.applyStatus.get k.castSucc))
    (∃ a, applied s a
      ∧ (s.ctx.portion = .commit → s.pendingWake = none →
        s.completePlan = (a.enterRest (entryRest s.ctx.slot), []))
      ∧ (∀ c, s.ctx.portion = .commit → s.pendingWake = some c →
        s.completePlan = (State.enterRest { a with pendingWake := none } (entryRest s.ctx.slot)).startExit c)
      ∧ (s.ctx.portion = .exit → s.pendingRequest = false → s.completePlan = (a.enterRest .run, []))
      ∧ (∀ t, s.ctx.portion = .exit → s.pendingRequest = true → s.requested = .low t →
        s.completePlan = (State.enterRest { a with pendingRequest := false } .run).startEntry t)
      ∧ (s.ctx.portion = .exit → s.pendingRequest = true → s.requested = .run →
        s.completePlan = (State.enterRest { a with pendingRequest := false } .run, []))
      ∧ (s.ctx.portion = .rollback →
        s.completePlan = (State.enterRest { a with requestStale := s.requested != .run } .run, [])))
    ∧ ∃ a, applied s.finalSweep.1 a
      ∧ s.finalSweep.1 = { s with domains := s.finalSweep.1.domains, notices := s.finalSweep.1.notices }
      ∧ ∀ x, s.ctx.portion = .trip → s.ctx.tripTarget = some x →
        s.completePlan
          = (a.enterRest (match x with | .softOff => .softOff | .tripped => .tripped), s.finalSweep.2))
  ∧ (entryRest (some 0) = .suspended ∧ entryRest (some 1) = .hibernated ∧ entryRest (some 2) = .softOff)
  ∧ ∀ (p : PlatformState) (s : State),
    let u := s.enterRest p
    let pattern (x : PlatformState) : Fin 4 := match x with
      | .suspended => 1
      | .hibernated | .softOff => 2
      | .tripped => 3
      | _ => 0
    let old := pattern s.platform
    u.platform = p ∧ u.ctx.slot = none ∧ u.ctx.index = 0 ∧ u.ctx.portion = .none ∧ u.ctx.failMark = false
      ∧ u.ctx.wait = .idle ∧ u.ctx.record = none ∧ u.ctx.tripTarget = none
      ∧ (p ≠ s.platform → u.notices = s.notices.raise .stateChanged) ∧ (p = s.platform → u.notices = s.notices)
      ∧ (pattern p = old → u.indicator = s.indicator)
      ∧ (pattern p ≠ old →
        u.indicator = { s.indicator with
          working := s.indicator.working.set old (s.indicator.buffered.get old), phase := 0, leadIn := true })
      ∧ u = { s with platform := p, ctx := u.ctx, notices := u.notices, indicator := u.indicator }

/-! ## Domain controller and ramp accounting -/

/-- R71, R81, R94, R97, R98, R86, R82: PG_RISE: the rise is captured and the domain reaches ON; each pinned child that is
due is enabled, and every other child is left (`v`); then the report of ON completes what waits for it (R29, R50, R79),
`u` being what that comes to. Where nothing waits for it, the report has no effect; a wait for pinned domains goes on
while one is RISING. A domain that is OFF or FAULT takes the stray flag. An input already high has no rising edge (the
model's choice, log 10). -/
def Obligations.PowerGoodRises : Prop :=
  ∀ (d : DomainId) (s : State), s.HeadsEmpty →
    let r := s.dom d
    let value := if r.overrange then 65535 else (s.fine - r.rampStart).toNat
    let cls : RampClass :=
      if r.overrange then .slow
      else if value < (s.cfg d).riseMin then .fast
      else if value ≤ (s.cfg d).riseMax then .ok
      else .slow
    let risen : State := State.notify (State.setDom (if cls = .ok then s else s.notify .rampOutOfWindow) d
      { r with
        state := .on, pg := true, overrange := false, change := true,
        lastRise := some ⟨value, cls⟩,
        riseAvg := if cls = .ok then
            some (match r.riseAvg with | none => 4 * value | some a => a - a / 4 + value)
          else r.riseAvg,
        stats := if r.counting then
            (match cls with
              | .ok => { r.stats with riseOk := min (r.stats.riseOk + 1) 65535 }
              | .fast => { r.stats with riseFast := min (r.stats.riseFast + 1) 65535 }
              | .slow => { r.stats with riseSlow := min (r.stats.riseSlow + 1) 65535 })
          else r.stats }) .domainChanged
    (r.pg = true → exec (.pgRise d) s = .next (s.ends s))
      ∧ (r.pg = false → (s.cfg d).present = false →
          exec (.pgRise d) s = .next (s.ends (s.setDom d { r with pg := true })))
      ∧ (r.pg = false → (s.cfg d).present = true → r.state = .rising →
          ∃ v : State, v = { risen with domains := v.domains }
            ∧ (∀ c,
              let due : Prop :=
                (s.cfg c).present = true ∧ (s.cfg c).parent = some d ∧ (s.cfg c).pinned = true ∧ c ≠ d
                  ∧ ((s.dom c).state = .off ∨ (s.dom c).state = .fault) ∧ (s.dom c).hold = none ∧ (s.dom c).pg = false
              (due → v.dom c = { s.dom c with
                  state := .rising, overrange := false, stray := false, rampStart := s.fine, change := true })
                ∧ (¬ due → v.dom c = risen.dom c))
            ∧ (s.ctx.wait ≠ .good d → s.ctx.wait ≠ .rollbackGood d → s.ctx.wait ≠ .pinned →
              exec (.pgRise d) s = .next (s.ends v))
            ∧ (∀ u, s.ctx.wait = .good d → comesTo v.proceeding u → exec (.pgRise d) s = .next (s.ends u))
            ∧ (∀ u, s.ctx.wait = .rollbackGood d → comesTo v.recordOver u → exec (.pgRise d) s = .next (s.ends u))
            ∧ (s.ctx.wait = .pinned →
              ((∃ e, (s.cfg e).present = true ∧ (s.cfg e).pinned = true ∧ (v.dom e).state = .rising) →
                  exec (.pgRise d) s = .next (s.ends v))
                ∧ ((∀ e, (s.cfg e).present = true → (s.cfg e).pinned = true → (v.dom e).state ≠ .rising) →
                  ∀ u, comesTo (v.setWait .idle, [.start 0]) u → exec (.pgRise d) s = .next (s.ends u))))
      ∧ (r.pg = false → (s.cfg d).present = true → r.state = .off ∨ r.state = .fault →
          exec (.pgRise d) s = .next (s.ends ((s.setDom d { r with pg := true, stray := true }).notify .strayPower)))

/-- R72, R73, R94, R97, R98, R101, R86: PG_FALL on a FALLING domain, which ends its fall in OFF with its hold-off
running; its report completes what waits for it (R30, R51, R79), `u` being what that comes to, and has no effect where
nothing waits for it. A hold-off of length 0 expires in the event (R74), after the report (the model's choice, log 13).
On an OFF or FAULT domain the level changes; R82: a pinned one that is then due is enabled, any other is left. An input
already low has no falling edge (the model's choice, log 10). -/
def Obligations.PowerGoodFallsToOff : Prop :=
  ∀ (d : DomainId) (s : State), s.HeadsEmpty →
    let r := s.dom d
    let value := if r.overrange then 65535 else (s.fine - r.rampStart).toNat
    let cls : RampClass :=
      if r.overrange then .slow
      else if value < (s.cfg d).fallMin then .fast
      else if value ≤ (s.cfg d).fallMax then .ok
      else .slow
    let avg : Option Nat :=
      if cls = .ok then some (match r.fallAvg with | none => 4 * value | some a => a - a / 4 + value) else r.fallAvg
    let len := match avg with
      | none => (s.cfg d).holdMin
      | some a => min (max (s.cfg d).holdMin ((3 * a + 15) / 16)) 60000
    let fallen : State := State.setDom
      (State.notify (if cls = .ok then s else s.notify .rampOutOfWindow) .domainChanged) d
      { r with
        state := .off, pg := false, overrange := false, change := true,
        lastFall := some ⟨value, cls⟩, fallAvg := avg, hold := if len = 0 then none else some ⟨s.fine, len⟩,
        stats := if r.counting then
            (match cls with
              | .ok => { r.stats with fallOk := min (r.stats.fallOk + 1) 65535 }
              | .fast => { r.stats with fallFast := min (r.stats.fallFast + 1) 65535 }
              | .slow => { r.stats with fallSlow := min (r.stats.fallSlow + 1) 65535 })
          else r.stats }
    (r.pg = false → exec (.pgFall d) s = .next (s.ends s))
      ∧ (r.pg = true → (s.cfg d).present = true → r.state = .falling → len ≠ 0 →
          (s.ctx.wait ≠ .low d → s.ctx.wait ≠ .rollbackLow d → exec (.pgFall d) s = .next (s.ends fallen))
            ∧ (∀ u, s.ctx.wait = .low d → comesTo fallen.proceeding u → exec (.pgFall d) s = .next (s.ends u))
            ∧ (∀ u, s.ctx.wait = .rollbackLow d → comesTo fallen.recordOver u →
                exec (.pgFall d) s = .next (s.ends u)))
      ∧ (r.pg = true → (s.cfg d).present = true → r.state = .falling → len = 0 →
          ∀ u, comesTo (fallen, [.offReport d, .holdOver d]) u → exec (.pgFall d) s = .next (s.ends u))
      ∧ (r.pg = true → r.state = .off ∨ r.state = .fault →
          let due : Prop :=
            (s.cfg d).present = true ∧ (s.cfg d).pinned = true ∧ r.hold = none
              ∧ ∀ p, (s.cfg d).parent = some p → (s.dom p).state = .on
          (due →
              exec (.pgFall d) s
                = .next (s.ends ((s.setDom d { r with
                    state := .rising, pg := false, overrange := false, stray := false, rampStart := s.fine,
                    change := true }).notify .domainChanged)))
            ∧ (¬ due → exec (.pgFall d) s = .next (s.ends (s.setDom d { r with pg := false }))))

/-- R72, R76, R101, R86: PG_FALL on an ON domain faults it with PG_LOST; here it has no enabled descendant and its
hold-off has a length. Where it is not critical and no exit plan waits for pinned domains, that is all. R79, R54 to R56: where
it is critical the platform trips with cause CRITICAL_FAULT, from every state but TRIPPING and TRIPPED; `u` is what that
comes to, spelled out where step 0 of the trip plan is a DELAY. -/
def Obligations.PowerGoodLostFaultsDomain : Prop :=
  ∀ (d : DomainId) (t : Step) (s : State), s.HeadsEmpty →
    (s.dom d).pg = true → (s.cfg d).present = true → (s.dom d).state = .on →
    (∀ e, e ≠ d → (s.dom e).state.enabled = true → s.descends d 10 e = false) →
    holdOffLength (s.cfg d).holdMin (s.dom d).fallAvg ≠ 0 →
    let faulted : State := (s.setDom d { s.dom d with
      state := .fault, cause := some .pgLost, pg := false, overrange := false, change := true,
      hold := some ⟨s.fine, holdOffLength (s.cfg d).holdMin (s.dom d).fallAvg⟩,
      stats := if (s.dom d).counting then
          { (s.dom d).stats with faults := min ((s.dom d).stats.faults + 1) 65535 }
        else (s.dom d).stats }).notify .domainChanged
    ((s.cfg d).critical = false → s.ctx.wait ≠ .pinned → exec (.pgFall d) s = .next (s.ends faulted))
      ∧ (∀ u, (s.cfg d).critical = true → comesTo (faulted.takeTrip (.criticalFault d)) u →
          exec (.pgFall d) s = .next (s.ends u))
      ∧ ((s.cfg d).critical = true → s.platform ≠ .tripping → s.platform ≠ .tripped →
          (s.active.plans.get 6).step? 0 = some t → t.kind = .delay → t.unit ≠ .learned → t.budget ≠ 0 →
          ∃ u, exec (.pgFall d) s = .next (s.ends u)
            ∧ u.platform = .tripping ∧ u.ctx.slot = some 6 ∧ u.ctx.portion = .trip ∧ u.ctx.wait = .delay
            ∧ u.ctx.tripTarget = some .tripped
            ∧ (s.trip.first = none → u.trip.first = some (.criticalFault d) ∧ u.trip.secondary = s.trip.secondary)
            ∧ (∀ c, s.trip.first = some c → u.trip.first = some c ∧ u.trip.secondary = min (s.trip.secondary + 1) 255)
            ∧ (u.dom d).state = .fault ∧ (u.dom d).cause = some .pgLost ∧ (∀ e, e ≠ d → u.dom e = s.dom e)
            ∧ u.undo = [] ∧ u.pendingWake = none ∧ u.pendingRequest = false ∧ u.requestStale = false
            ∧ u.notices
                = (((s.notices.raise .domainChanged).raise .stateChanged).raise .tripped)
            ∧ u.emittedUp = s.emittedUp ∧ u.emittedDn = s.emittedDn ∧ u.queues = s.queues)

/-- R74, R68, R82: HOLD_OFF_EXPIRY. The hold-off becomes idle; a request that the sequencer has deferred on the domain is
judged again, and is accepted, refused, or deferred once more; then a pinned domain that is due is enabled; `u` is what
the deferred request goes on to. A hold-off that is idle has no expiry. R75, R96: OVERRANGE_EXPIRY sets the mark at 65,535
fine ticks of a ramp under way, once, and its report ends the wait for RISING pinned domains, or fails a rollback whose
request waits for a FALLING domain. An expiry that has not come changes nothing (the model's reading, log 3). -/
def Obligations.ControllerExpiries : Prop :=
  ∀ (d : DomainId) (h : HoldOff) (s : State), s.HeadsEmpty →
    let marked : State := s.setDom d { s.dom d with overrange := true }
    ((s.dom d).hold = some h → h.length ≤ (s.fine - h.start).toNat →
        let freed : State := s.setDom d { s.dom d with hold := none }
        (s.ctx.wait ≠ .enable d → s.ctx.wait ≠ .rollbackEnable d → (s.cfg d).pinned = false →
            exec (.holdOffExpiry d) s = .next (s.ends freed))
          ∧ (s.ctx.wait ≠ .enable d → s.ctx.wait ≠ .rollbackEnable d → (s.cfg d).present = true →
            (s.cfg d).pinned = true → (s.dom d).state = .off ∨ (s.dom d).state = .fault → (s.dom d).pg = false →
            (∀ p, (s.cfg d).parent = some p → p ≠ d ∧ (s.dom p).state = .on) →
            exec (.holdOffExpiry d) s
              = .next (s.ends ((s.setDom d { s.dom d with
                  hold := none, state := .rising, overrange := false, stray := false, rampStart := s.fine,
                  change := true }).notify .domainChanged)))
          ∧ ∀ u, (s.cfg d).pinned = false →
            let e := freed.enableEffect d .accepted
            (s.ctx.wait = .enable d → freed.judgeEnable d = .accepted → (s.dom d).state.enabled = false →
                comesTo ((e.1.pushUndo (.domain d false)).proceeding.1, e.2 ++ [.start (s.ctx.index + 1)]) u →
                exec (.holdOffExpiry d) s = .next (s.ends u))
              ∧ (∀ st, s.ctx.wait = .enable d → s.currentStep = some st →
                freed.judgeEnable d = .dependency ∨ freed.judgeEnable d = .stillPowered →
                comesTo (freed.failing st s.ctx.index) u → exec (.holdOffExpiry d) s = .next (s.ends u))
              ∧ (s.ctx.wait = .rollbackEnable d → freed.judgeEnable d = .accepted → (e.1.dom d).state = .on →
                comesTo (e.1.recordOver.1, e.2 ++ e.1.recordOver.2) u → exec (.holdOffExpiry d) s = .next (s.ends u))
              ∧ (s.ctx.wait = .rollbackEnable d → freed.judgeEnable d = .accepted → (e.1.dom d).state = .rising →
                e.1.riseBudget d ≠ 0 →
                exec (.holdOffExpiry d) s
                  = .next (s.ends { e.1 with ctx := { s.ctx with
                      wait := .rollbackGood d, clock := .fine, startTick := s.fine,
                      budget := some (e.1.riseBudget d) } }))
              ∧ (s.ctx.wait = .rollbackEnable d →
                freed.judgeEnable d = .dependency ∨ freed.judgeEnable d = .stillPowered →
                comesTo freed.recordFails u → exec (.holdOffExpiry d) s = .next (s.ends u))
              ∧ (s.ctx.wait = .enable d ∨ s.ctx.wait = .rollbackEnable d → freed.judgeEnable d = .deferred →
                exec (.holdOffExpiry d) s = .next (s.ends freed)))
      ∧ ((s.dom d).hold = some h → (s.fine - h.start).toNat < h.length →
          exec (.holdOffExpiry d) s = .next (s.ends s))
      ∧ ((s.dom d).hold = none → exec (.holdOffExpiry d) s = .next (s.ends s))
      ∧ ((s.dom d).state = .rising ∨ (s.dom d).state = .falling → (s.dom d).overrange = false →
          (s.fine - (s.dom d).rampStart).toNat = 65535 →
          ((s.ctx.wait = .pinned → (s.cfg d).pinned = false) →
            (s.ctx.wait = .rollbackEnable d → (s.dom d).state ≠ .falling) →
            exec (.overrangeExpiry d) s = .next (s.ends marked))
          ∧ (∀ u, s.ctx.wait = .pinned → (s.cfg d).present = true → (s.cfg d).pinned = true →
            (s.dom d).state = .rising → comesTo (marked.setWait .idle, [.start 0]) u →
            exec (.overrangeExpiry d) s = .next (s.ends u))
          ∧ (∀ u, s.ctx.wait = .rollbackEnable d → (s.dom d).state = .falling → comesTo marked.recordFails u →
            exec (.overrangeExpiry d) s = .next (s.ends u)))
      ∧ ((s.dom d).state ≠ .rising ∧ (s.dom d).state ≠ .falling ∨ (s.dom d).overrange = true
            ∨ (s.fine - (s.dom d).rampStart).toNat < 65535 →
          exec (.overrangeExpiry d) s = .next (s.ends s))

/-- R67, R82: the answer to an enable request and its effect, by the domain's state. Where the domain reaches ON at once,
each pinned child that is due is enabled with it, and every other child is left. -/
def Obligations.EnableRequestTable : Prop :=
  ∀ (d : DomainId) (s : State),
    (s.dom d).state.enabled = true ∧ s.judgeEnable d = .accepted ∧ s.enableEffect d (s.judgeEnable d) = (s, [])
      ∨ (s.dom d).state = .falling ∧ s.judgeEnable d = .deferred
      ∨ (s.dom d).state = .fault ∧ (s.dom d).pg = true ∧ s.judgeEnable d = .stillPowered
      ∨ ((s.dom d).state = .off ∨ (s.dom d).state = .fault ∧ (s.dom d).pg = false)
        ∧ ((s.dom d).hold ≠ none ∧ s.judgeEnable d = .deferred
          ∨ (s.dom d).hold = none ∧ (∃ p, (s.cfg d).parent = some p ∧ (s.dom p).state ≠ .on)
            ∧ s.judgeEnable d = .dependency
          ∨ (s.dom d).hold = none ∧ (∀ p, (s.cfg d).parent = some p → (s.dom p).state = .on)
            ∧ s.judgeEnable d = .accepted
            ∧ ((s.dom d).pg = false →
                s.enableEffect d .accepted
                  = ((s.setDom d { s.dom d with
                      state := .rising, overrange := false, stray := false, rampStart := s.fine,
                      change := true }).notify .domainChanged, []))
            ∧ ((s.dom d).pg = true →
                let reached : State := (s.setDom d { s.dom d with
                  state := .on, overrange := false, stray := false, rampStart := s.fine,
                  change := true }).notify .domainChanged
                ∃ v : State, v = { reached with domains := v.domains }
                  ∧ (∀ c,
                    let due : Prop :=
                      (s.cfg c).present = true ∧ (s.cfg c).parent = some d ∧ (s.cfg c).pinned = true ∧ c ≠ d
                        ∧ ((s.dom c).state = .off ∨ (s.dom c).state = .fault) ∧ (s.dom c).hold = none
                        ∧ (s.dom c).pg = false
                    (due → v.dom c = { s.dom c with
                        state := .rising, overrange := false, stray := false, rampStart := s.fine, change := true })
                      ∧ (¬ due → v.dom c = reached.dom c))
                  ∧ s.enableEffect d .accepted = (v, [.onReport d])))

/-- R69, R73: the effect of a disable request, by the domain's state. A hold-off of length 0 expires in the event (R74),
after the report of OFF (the model's choice, log 13). -/
def Obligations.DisableRequestTable : Prop :=
  ∀ (d : DomainId) (s : State),
    ((s.cfg d).pinned = true → s.disableEffect d = (s.notify .pinnedHit, []) ∧ s.disableRefused d = false)
      ∧ ((s.cfg d).pinned = false → (s.dom d).state.enabled = true → s.childActive d = true →
          s.disableRefused d = true ∧ s.disableEffect d = (s, []))
      ∧ ((s.cfg d).pinned = false → (s.dom d).state.enabled = true → s.childActive d = false → (s.dom d).pg = true →
          s.disableRefused d = false
            ∧ s.disableEffect d
              = ((s.setDom d { s.dom d with
                  state := .falling, overrange := false, rampStart := s.fine, change := true }).notify .domainChanged, []))
      ∧ ((s.cfg d).pinned = false → (s.dom d).state.enabled = true → s.childActive d = false → (s.dom d).pg = false →
          let len := holdOffLength (s.cfg d).holdMin (s.dom d).fallAvg
          let off (hold : Option HoldOff) : State := (s.notify .domainChanged).setDom d { s.dom d with
            state := .off, overrange := false, rampStart := s.fine, change := true, hold := hold }
          (len ≠ 0 → s.disableEffect d = (off (some ⟨s.fine, len⟩), [.offReport d]))
            ∧ (len = 0 → s.disableEffect d = (off none, [.offReport d, .holdOver d])))
      ∧ ((s.cfg d).pinned = false → (s.dom d).state = .falling ∨ (s.dom d).state = .off → s.disableEffect d = (s, []))
      ∧ ((s.cfg d).pinned = false → (s.dom d).state = .fault → (s.dom d).pg = false →
          s.disableEffect d
            = ((s.setDom d { s.dom d with state := .off, change := true }).notify .domainChanged, [.offReport d]))
      ∧ ((s.cfg d).pinned = false → (s.dom d).state = .fault → (s.dom d).pg = true →
          s.disableEffect d
            = ((s.setDom d { s.dom d with
                state := .falling, overrange := false, rampStart := s.fine, hold := none,
                change := true }).notify .domainChanged, []))

/-- R64, R76, R78, R79: the cascade of a fault. The domain takes its cause and every enabled descendant PARENT_LOST, all
before any report; every other domain is left; the reports name the domain first and then the enabled descendants in
ascending number, each critical as its record has it. A descendant is a present domain whose parent is the domain, or a
descendant of it. The expiries of hold-offs of length 0 follow all the reports (the
model's choice, log 13). -/
def Obligations.FaultCascades : Prop :=
  (∀ (d : DomainId) (c : FaultCause) (s : State),
    ((s.faultDomain d c).1.dom d).state = .fault ∧ ((s.faultDomain d c).1.dom d).cause = some c
      ∧ ((s.faultDomain d c).1.dom d).change = true ∧ ((s.faultDomain d c).1.dom d).overrange = false
      ∧ (∀ e, e ≠ d → (s.dom e).state.enabled = true → s.descends d 10 e = true →
          ((s.faultDomain d c).1.dom e).state = .fault ∧ ((s.faultDomain d c).1.dom e).cause = some .parentLost
            ∧ ((s.faultDomain d c).1.dom e).change = true
            ∧ ((s.faultDomain d c).1.dom e).lastRise = (s.dom e).lastRise
            ∧ (.faultReport e (s.cfg e).critical) ∈ (s.faultDomain d c).2)
      ∧ (∀ e, e ≠ d → ((s.dom e).state.enabled = false ∨ s.descends d 10 e = false) →
          (s.faultDomain d c).1.dom e = s.dom e)
      ∧ (s.faultDomain d c).2.head? = some (.faultReport d (s.cfg d).critical)
      ∧ ∃ tail, (s.faultDomain d c).2
          = ((d :: (List.finRange 10).filter fun e => e != d && (s.dom e).state.enabled && s.descends d 10 e).map
                fun e => Work.faultReport e (s.cfg e).critical) ++ tail
            ∧ ∀ w ∈ tail, ∃ e, w = .holdOver e)
    ∧ ∀ (d e : DomainId) (n : Nat) (s : State),
      s.descends d 0 e = false
        ∧ (s.descends d (n + 1) e = true ↔
          (s.cfg e).present = true ∧ ∃ p, (s.cfg e).parent = some p ∧ (p = d ∨ s.descends d n p = true))

/-- R59, R95: the final sweep: present domains that are not pinned leave RISING, ON and FAULT; all others are left. With
power-good low no fall begins, and the start tick stands. -/
def Obligations.FinalSweepDropsEnables : Prop :=
  ∀ (d : DomainId) (s : State),
    ((s.cfg d).present = true → (s.cfg d).pinned = false → (s.dom d).state.enabled = true → (s.dom d).pg = true →
        s.finalSweep.1.dom d = { s.dom d with
          state := .falling, overrange := false, rampStart := s.fine, change := true })
      ∧ ((s.cfg d).present = true → (s.cfg d).pinned = false → (s.dom d).state.enabled = true → (s.dom d).pg = false →
          s.finalSweep.1.dom d = { s.dom d with
            state := .off, overrange := false, change := true,
            hold :=
              if holdOffLength (s.cfg d).holdMin (s.dom d).fallAvg = 0 then none
              else some ⟨s.fine, holdOffLength (s.cfg d).holdMin (s.dom d).fallAvg⟩ })
      ∧ ((s.cfg d).present = true → (s.cfg d).pinned = false → (s.dom d).state = .fault → (s.dom d).pg = false →
          s.finalSweep.1.dom d = { s.dom d with state := .off, change := true })
      ∧ ((s.cfg d).present = true → (s.cfg d).pinned = false → (s.dom d).state = .fault → (s.dom d).pg = true →
          s.finalSweep.1.dom d = { s.dom d with
            state := .falling, overrange := false, rampStart := s.fine, hold := none, change := true })
      ∧ ((s.cfg d).present = false ∨ (s.cfg d).pinned = true ∨ (s.dom d).state = .off ∨ (s.dom d).state = .falling →
          s.finalSweep.1.dom d = s.dom d)
      ∧ s.finalSweep.1.platform = s.platform ∧ s.finalSweep.1.queues = s.queues

/-- R70, R64, R66: every operation of the domain controller keeps its invariant: whenever a domain is RISING or ON, its
parent, if it has one, is ON. The copy is of a domain set that its judgement accepts. -/
def Obligations.DomainControllerKeepsParentRule : Prop :=
  ∀ (d : DomainId) (c : FaultCause) (ds : Vector DomainConfig 10) (s : State), s.DomainsSound →
    ((s.cfg d).present = true → (s.enableEffect d (s.judgeEnable d)).1.DomainsSound)
      ∧ (s.disableEffect d).1.DomainsSound
      ∧ ((s.dom d).state.enabled = true → (s.faultDomain d c).1.DomainsSound)
      ∧ (s.pgRise d).1.DomainsSound ∧ (s.pgFall d).1.DomainsSound
      ∧ (s.holdExpiry d).1.DomainsSound ∧ (s.tryPinned d).DomainsSound ∧ (s.overrangeExpiry d).1.DomainsSound
      ∧ s.finalSweep.1.DomainsSound
      ∧ (s.judgeDomainSet ds = .success → (s.copyDomainSet ds).DomainsSound)

/-- R98, R100: a learned budget is one and a half times the average, rounded up, held within the window, and with no
sample the window's maximum; samples within a window keep the average within four times the window, and a run of one
value holds it at four times that value. -/
def Obligations.LearnedFiguresStayInWindow : Prop :=
  ∀ (avg : Option Nat) (lo hi : Nat), lo ≤ hi →
    lo ≤ learnedBudget avg lo hi ∧ learnedBudget avg lo hi ≤ hi
      ∧ learnedBudget none lo hi = hi
      ∧ (∀ a, lo ≤ (3 * a + 7) / 8 → (3 * a + 7) / 8 ≤ hi → learnedBudget (some a) lo hi = (3 * a + 7) / 8)
      ∧ ∀ value, lo ≤ value → value ≤ hi → (∀ a, avg = some a → 4 * lo ≤ a ∧ a ≤ 4 * hi) →
          4 * lo ≤ updateAvg avg value ∧ updateAvg avg value ≤ 4 * hi
            ∧ updateAvg (some (4 * value)) value = 4 * value

/-! ## Wake unit, button and indicator -/

/-- R110 to R115, R105, Table 6-1: an arrival of a source, by its record and the platform state. -/
def Obligations.ArrivalByPlatformState : Prop :=
  ∀ (n : SourceId) (s : State),
    let c := s.captures.get n
    let record (e : CaptureEffect) : CaptureRecord :=
      { captured := true, count := if c.captured then min (c.count + 1) 255 else 1, overwritten := c.captured,
        milli := s.milli, platform := some s.platform, effect := e }
    let captured (e : CaptureEffect) : State := State.notify { s with captures := s.captures.set n (record e) }
      (if c.captured then .captureOverwrite else .wakeCaptured)
    let ready (b : Nat) : Prop :=
      (s.wakes.get n).arm.getLsbD b = true ∧ ∀ d, (s.wakes.get n).needs = some d → (s.dom d).state = .on
    ((s.wakes.get n).enabled = false → s.arrival n = (s, []))
      ∧ ((s.wakes.get n).enabled = true →
        (∀ b, (s.platform = .suspended ∧ b = 0 ∨ s.platform = .hibernated ∧ b = 1 ∨ s.platform = .softOff ∧ b = 2
              ∨ s.platform = .tripped ∧ b = 3) →
            (ready b → s.arrival n = (captured .woke).startExit (.source n))
              ∧ (¬ ready b → s.arrival n = (captured .none, [])))
        ∧ (∀ b, s.platform = .checking ∨ s.platform = .parked →
            (s.ctx.slot = some 0 ∧ b = 0 ∨ s.ctx.slot = some 1 ∧ b = 1 ∨ s.ctx.slot = some 2 ∧ b = 2) →
            (ready b → (s.wakes.get n).abortFlag = true → s.arrival n = (captured .aborted).abort (.wake n))
              ∧ (¬ ready b ∨ (s.wakes.get n).abortFlag = false → s.arrival n = (captured .none, [])))
        ∧ (∀ b, s.platform = .committing →
            (s.ctx.slot = some 0 ∧ b = 0 ∨ s.ctx.slot = some 1 ∧ b = 1 ∨ s.ctx.slot = some 2 ∧ b = 2) →
            (ready b → s.pendingWake = none →
                s.arrival n = ({ (captured .pended) with pendingWake := some (.source n) }, []))
              ∧ (¬ ready b ∨ s.pendingWake ≠ none → s.arrival n = (captured .none, [])))
        ∧ (s.platform = .run ∨ s.platform = .waking ∨ s.platform = .returning ∨ s.platform = .tripping →
            s.arrival n = (captured .none, [])))

/-- R106, R110 to R112, R3: the wake lines. A falling edge is no arrival. A line already high has no assertion edge (the
model's choice, log 10). An assertion edge is an arrival of the sources bound to the line, in ascending number, each in
the state that those before it have left; `u` is what they come to. After an arrival that starts the exit plan the
others find WAKING and have the effect NONE; that the plan's steps follow them all is the model's reading (log 30).
Spelled out where none of them is enabled, and where one alone is bound, whose arrival is captured with no effect, or
starts an exit plan that waits for a pinned domain. -/
def Obligations.WakeLineEdges : Prop :=
  ∀ (l : WakeLine) (s : State),
    exec (.wakeLineFallingEdge l) s = .next (s.setLine l false)
      ∧ (s.HeadsEmpty → s.line l = true → exec (.wakeLineAssertion l) s = .next (s.ends s))
      ∧ (∀ u, s.line l = false →
          comesTo ((s.setLine l true).arrivals
            ((List.finRange 16).filter fun n => (s.wakes.get n).binding == lineBinding l)) u →
          exec (.wakeLineAssertion l) s = .next (s.ends u))
      ∧ (∀ (n : SourceId), micro (.arrival n) s = s.arrival n)
      ∧ (∀ (n : SourceId) (ns : List SourceId), s.arrivals [] = (s, [])
          ∧ s.arrivals (n :: ns)
            = (((s.arrival n).1.arrivals ns).1, (s.arrival n).2 ++ ((s.arrival n).1.arrivals ns).2))
      ∧ (∀ n m : SourceId, m ≠ n → (s.wakes.get n).enabled = true → (s.wakes.get m).enabled = true →
          s.judgeArrival n = .woke →
          (s.arrivals [n, m]).2 = (s.arrival n).2 ∧ (s.arrivals [n, m]).1.platform = .waking
            ∧ (s.arrivals [n, m]).1.wakeCause = some (.source n)
            ∧ ((s.arrivals [n, m]).1.captures.get m).platform = some .waking
            ∧ ((s.arrivals [n, m]).1.captures.get m).effect = .none)
      ∧ (s.HeadsEmpty → s.line l = false →
          (∀ n : SourceId, (s.wakes.get n).binding = lineBinding l → (s.wakes.get n).enabled = false) →
          exec (.wakeLineAssertion l) s = .next (s.ends (s.setLine l true)))
      ∧ (∀ n : SourceId, s.HeadsEmpty → s.line l = false → (s.wakes.get n).binding = lineBinding l →
          (s.wakes.get n).enabled = true → (∀ m, m ≠ n → (s.wakes.get m).binding ≠ lineBinding l) →
          (s.judgeArrival n = .none →
              exec (.wakeLineAssertion l) s = .next (s.ends ((s.setLine l true).capture n .none)))
            ∧ (∀ slot, s.judgeArrival n = .woke → exitSlot s.platform = some slot → s.pinnedRising = true →
              ∃ u, exec (.wakeLineAssertion l) s = .next (s.ends u)
                ∧ u.platform = .waking ∧ u.wakeCause = some (.source n) ∧ u.ctx.slot = some slot
                ∧ u.ctx.portion = .exit ∧ u.ctx.index = 0 ∧ u.ctx.wait = .pinned ∧ u.line l = true
                ∧ (u.captures.get n).effect = .woke ∧ (u.captures.get n).platform = some s.platform
                ∧ (∀ m, m ≠ n → u.captures.get m = s.captures.get m)
                ∧ u.domains = s.domains ∧ u.trip = s.trip ∧ u.queues = s.queues ∧ u.wakes = s.wakes))

/-- R121 to R125: the button's edges and expiries. A line already low has no press edge and a line already high no
release (the model's choice, log 10). A recognized press is told to the hub in RUN, or discarded where it cannot be
placed; in every other state it is an arrival of W0, `u` being what that comes to: it wakes from a rest state, aborts
an entry in CHECKING and PARKED, is held in COMMITTING, and is captured with no effect in the others. An override trips
the platform; in SOFT_OFF it does nothing, and in TRIPPED and TRIPPING it is counted. An expiry that has not come
changes nothing (the model's reading, log 3). -/
def Obligations.ButtonEvents : Prop :=
  ∀ s : State,
    let b := s.button
    let frame (l : Byte) : Frame := { kind := .sig, tag := 0, dest := 0, source := 15, body := [0x22, l] }
    (b.low = false → b.hold = .idle →
        exec .pressEdge s = .next { s with button := { b with
          low := true, hold := .debouncing, pressTick := s.milli,
          debounceInForce := b.debounce, overrideInForce := b.override } })
      ∧ (b.low = true → exec .pressEdge s = .next s)
      ∧ (s.HeadsEmpty →
        (b.low = false → exec .release s = .next (s.ends s))
        ∧ (b.low = true → b.hold = .idle ∨ b.hold = .debouncing ∨ b.hubMark = false →
            exec .release s = .next (s.ends { s with button := { b with low := false, hold := .idle } }))
        ∧ (b.low = true → b.hold = .held ∨ b.hold = .overridden → b.hubMark = true →
            s.up.linkUp = true → s.queues.upOwn.length < 8 →
            exec .release s = .next (s.ends { s with
              button := { b with low := false, hold := .idle, hubMark := false },
              queues := { s.queues with upOwn := s.queues.upOwn ++ [frame 0] } }))
        ∧ (b.low = true → b.hold = .held ∨ b.hold = .overridden → b.hubMark = true →
            s.up.linkUp = false ∨ 8 ≤ s.queues.upOwn.length →
            exec .release s = .next (s.ends (State.notify { s with
              button := { b with low := false, hold := .idle, hubMark := false },
              up := { s.up with discards := min (s.up.discards + 1) 65535 } } .txDiscard)))
        ∧ (b.hold = .debouncing → b.debounceInForce ≤ (s.milli - b.pressTick).toNat →
            let pressed : State := { s with button := { b with hold := .held } }
            (s.platform = .run → s.up.linkUp = true → s.queues.upOwn.length < 8 →
              exec .debounceExpiry s = .next (s.ends { s with
                button := { b with hold := .held, hubMark := true },
                queues := { s.queues with upOwn := s.queues.upOwn ++ [frame 1] } }))
            ∧ (s.platform = .run → s.up.linkUp = false ∨ 8 ≤ s.queues.upOwn.length →
              exec .debounceExpiry s = .next (s.ends (State.notify { s with
                button := { b with hold := .held, hubMark := false },
                up := { s.up with discards := min (s.up.discards + 1) 65535 } } .txDiscard)))
            ∧ (s.platform ≠ .run → ∀ u, comesTo (pressed.arrival 0) u → exec .debounceExpiry s = .next (s.ends u))
            ∧ (s.ButtonSourceFixed →
              (s.platform = .waking ∨ s.platform = .returning ∨ s.platform = .tripping →
                exec .debounceExpiry s = .next (s.ends (pressed.capture 0 .none)))
              ∧ (s.platform = .suspended ∨ s.platform = .hibernated ∨ s.platform = .softOff
                  ∨ s.platform = .tripped →
                pressed.arrival 0 = (pressed.capture 0 .woke).startExit (.source 0)
                  ∧ (s.pinnedRising = true →
                    exec .debounceExpiry s
                      = .next (s.ends ((pressed.capture 0 .woke).startExit (.source 0)).1)))
              ∧ (s.platform = .checking ∨ s.platform = .parked →
                s.ctx.slot = some 0 ∨ s.ctx.slot = some 1 ∨ s.ctx.slot = some 2 →
                pressed.arrival 0 = (pressed.capture 0 .aborted).abort (.wake 0))
              ∧ (s.platform = .committing → s.ctx.slot = some 0 ∨ s.ctx.slot = some 1 ∨ s.ctx.slot = some 2 →
                (s.pendingWake = none →
                  exec .debounceExpiry s
                    = .next (s.ends { (pressed.capture 0 .pended) with pendingWake := some (.source 0) }))
                ∧ (s.pendingWake ≠ none →
                  exec .debounceExpiry s = .next (s.ends (pressed.capture 0 .none))))))
        ∧ (b.hold ≠ .debouncing ∨ (s.milli - b.pressTick).toNat < b.debounceInForce →
            exec .debounceExpiry s = .next (s.ends s))
        ∧ (b.hold = .held → b.overrideInForce ≤ (s.milli - b.pressTick).toNat → s.platform = .softOff →
            exec .overrideExpiry s = .next (s.ends { s with button := { b with hold := .overridden } }))
        ∧ (b.hold = .held → b.overrideInForce ≤ (s.milli - b.pressTick).toNat →
            s.platform = .tripped ∨ s.platform = .tripping →
            exec .overrideExpiry s
              = .next (s.ends { s with
                  button := { b with hold := .overridden },
                  trip := (match s.trip.first with
                    | none => { s.trip with first := some .override }
                    | some _ => { s.trip with secondary := min (s.trip.secondary + 1) 255 }) }))
        ∧ (b.hold = .held → b.overrideInForce ≤ (s.milli - b.pressTick).toNat → s.platform ≠ .softOff →
            ∀ u, comesTo (State.takeTrip { s with button := { b with hold := .overridden } } .override) u →
              exec .overrideExpiry s = .next (s.ends u))
        ∧ (∀ t, b.hold = .held → b.overrideInForce ≤ (s.milli - b.pressTick).toNat →
            s.platform ≠ .softOff → s.platform ≠ .tripped → s.platform ≠ .tripping →
            (s.active.plans.get 6).step? 0 = some t → t.kind = .delay → t.unit ≠ .learned → t.budget ≠ 0 →
            ∃ u, exec .overrideExpiry s = .next (s.ends u)
              ∧ u.platform = .tripping ∧ u.ctx.slot = some 6 ∧ u.ctx.portion = .trip ∧ u.ctx.wait = .delay
              ∧ u.ctx.tripTarget = some .softOff
              ∧ u.button = { b with hold := .overridden } ∧ u.pendingWake = none ∧ u.undo = []
              ∧ u.domains = s.domains ∧ u.queues = s.queues)
        ∧ (b.hold ≠ .held ∨ (s.milli - b.pressTick).toNat < b.overrideInForce →
            exec .overrideExpiry s = .next (s.ends s)))

/-- R127 to R130: an advance of the indicator, the pattern selected, and the level of IND. -/
def Obligations.IndicatorAdvances : Prop :=
  ∀ s : State,
    let u := s.indicator
    let k : Fin 4 := match s.platform with
      | .suspended => 1
      | .hibernated | .softOff => 2
      | .tripped => 3
      | _ => 0
    let q := u.working.get k
    (u.leadIn = true →
        exec .indicatorPhaseAdvance s = .next { s with indicator := { u with leadIn := false, phase := 0 } })
      ∧ (u.leadIn = false → u.phase + 1 < q.period →
        exec .indicatorPhaseAdvance s = .next { s with indicator := { u with phase := u.phase + 1 } })
      ∧ (u.leadIn = false → q.period ≤ u.phase + 1 →
        exec .indicatorPhaseAdvance s
          = .next { s with indicator := { u with phase := 0, working := u.working.set k (u.buffered.get k) } })
      ∧ (u.leadIn = true ∨ q.mode = .off → s.indOut = q.inverted)
      ∧ (u.leadIn = false → q.mode = .on → s.indOut = !q.inverted)
      ∧ (u.leadIn = false → q.mode = .blink →
          s.indOut = if u.phase < q.onTime ∧ u.phase < q.period then !q.inverted else q.inverted)

/-! ## Configuration -/

/-- R182, R183, R184, R188, R154: a request of the hub, of any of its rows; a row stands for its CFG frame (the model's
choice, log 8). Where the unit is free it is executed and answered in one event; where UP-RSP is full it waits in the
input queue; where the UP head holds a frame it is an overrun (R150; log 8). The queue's head is executed first, taken
off the queue and answered, its answer discarded with UP DOWN: a request that stands at the head is the execution of
that head (log 8); behind another it joins the queue and that head is executed, or, the queue full, that head is
executed and it joins. With no command waiting and nothing due before it (log 1), the block executes the head by itself. Of an illegal length it is dropped and
counted at an UP port, and with UP DOWN nothing happens (logs 8 and 11). Its table, index and access are checked in
that order, then its selection: bytes that are not those of the selected fields are refused, those after a mask of 0
among them (the model's reading, log 24). -/
def Obligations.RequestIsCheckedAndAnswered : Prop :=
  (∀ (i : Instr) (f : Frame) (s : State), requestOf i = some f →
      let free : Prop := s.up.linkUp = true → s.queues.upRsp.length < 4
      let served (g : Frame) (rest : List Frame) : State :=
        let taken : State := { s with queues := { s.queues with cfgIn := rest } }
        (taken.execute g).1.respond (taken.execute g).2
      let erred : State := State.notify { s with up := { s.up with errors := min (s.up.errors + 1) 65535 } } .linkError
      (f.wf = true → s.ConfigReady → exec i s = .next (s.ends ((s.execute f).1.respond (s.execute f).2)))
        ∧ (f.wf = true → s.HeadsEmpty → ∀ g rest, s.queues.cfgIn = g :: rest →
          (g = f → free → exec i s = .next (s.ends (served f rest)))
            ∧ (g = f → ¬ free → exec i s = .next (s.ends s))
            ∧ (g ≠ f → free → rest.length < 3 → exec i s = .next (s.ends (served g (rest ++ [f]))))
            ∧ (g ≠ f → free → rest.length = 3 →
              exec i s = .next (s.ends { served g rest with
                queues := { (served g rest).queues with cfgIn := rest ++ [f] } })))
        ∧ (f.wf = true → s.HeadsEmpty → s.up.linkUp = true → 4 ≤ s.queues.upRsp.length →
            s.queues.cfgIn.length < 4 → s.queues.cfgIn.head? ≠ some f →
            exec i s = .next (s.ends { s with queues := { s.queues with cfgIn := s.queues.cfgIn ++ [f] } }))
        ∧ (f.wf = true → s.HeadsEmpty → s.up.linkUp = true → 4 ≤ s.queues.upRsp.length →
            4 ≤ s.queues.cfgIn.length → s.queues.cfgIn.head? ≠ some f →
            State.Settled { s with up := { s.up with head := some f } } →
            exec i s = .next { s with up := { s.up with head := some f } })
        ∧ (f.wf = true → s.up.head ≠ none → s.queues.cfgIn.head? ≠ some f → erred.Settled → exec i s = .next erred)
        ∧ (f.wf = false → s.HeadsEmpty → s.up.linkUp = true → exec i s = .next (s.ends erred))
        ∧ (f.wf = false → s.HeadsEmpty → s.up.linkUp = false → exec i s = .next (s.ends s)))
    ∧ (∀ (r : Frame) (s : State),
      (s.up.linkUp = true → s.queues.upRsp.length < 4 →
          s.respond r = { s with queues := { s.queues with upRsp := s.queues.upRsp ++ [r] } })
        ∧ (s.up.linkUp = false →
          s.respond r
            = State.notify { s with up := { s.up with discards := min (s.up.discards + 1) 65535 } } .txDiscard))
    ∧ (∀ (f : Frame) (rest : List Frame) (s : State),
      s.HeadsEmpty → s.queues.cfgIn = f :: rest → f.wf = true → f.kind = .cfgWr ∨ f.kind = .cfgRd → f.dest = 15 →
      f.source = 0 → (s.up.linkUp = true → s.queues.upRsp.length < 4) →
      s.pending = [] → s.dueDomain = none → s.dueSequencer = none → s.dueButton = none →
      let taken : State := { s with queues := { s.queues with cfgIn := rest } }
      step s = .next (s.ends ((taken.execute f).1.respond (taken.execute f).2)))
    ∧ ∀ (tag : BitVec 4) (table index : Byte) (mask : BitVec 16) (values : List Byte) (s : State),
      valuesFit values = true → s.ConfigReady →
      (14 < table.toNat →
          exec (.cfgWr tag table index mask values) s = .next (s.ends (s.answered tag table index .badTable [])))
        ∧ (table.toNat ≤ 14 → indexInRange table.toNat index.toNat = false →
          exec (.cfgWr tag table index mask values) s = .next (s.ends (s.answered tag table index .badIndex [])))
        ∧ (table.toNat ∈ [3, 4, 6, 7, 14] → indexInRange table.toNat index.toNat = true →
          exec (.cfgWr tag table index mask values) s = .next (s.ends (s.answered tag table index .readOnly [])))
        ∧ (table.toNat ∈ [0, 1, 2, 5, 8, 9, 10, 12, 13] → indexInRange table.toNat index.toNat = true →
          (mask = 0 → values = [] →
            exec (.cfgWr tag table index mask values) s = .next (s.ends (s.answered tag table index .ok [])))
          ∧ (selection table.toNat mask values = none →
            exec (.cfgWr tag table index mask values) s = .next (s.ends (s.answered tag table index .badValue []))))
        ∧ (table = 0 ∨ 14 < table.toNat →
          exec (.domainStatusRead tag table index) s = .next (s.ends (s.answered tag table index .badTable [])))
        ∧ (table ≠ 0 → table.toNat ≤ 14 → indexInRange table.toNat index.toNat = false →
          exec (.domainStatusRead tag table index) s = .next (s.ends (s.answered tag table index .badIndex [])))

/-- R185, R85, R192, Tables 11-3 to 11-5: a read answers with the record as it stands, its fields in order, each of
more than one byte with its most significant byte first, and coded as Table 11-4 gives. That of a domain's status
clears the change flag; that of any other table changes nothing. One row stands for every read (the model's choice,
log 9). -/
def Obligations.ReadsAnswerWithTheRecord : Prop :=
  (∀ (tag : BitVec 4) (s : State), s.ConfigReady →
    (∀ d : DomainId, let r := s.dom d
      exec (.domainStatusRead tag 7 (BitVec.ofNat 8 d.val)) s
        = .next (s.ends (State.answered (s.setDom d { r with change := false }) tag 7 (BitVec.ofNat 8 d.val) .ok
            (([(match r.state with | .off => 0 | .rising => 1 | .on => 2 | .falling => 3 | .fault => 4),
              (match r.cause with | none => 0 | some .timeout => 1 | some .pgLost => 2 | some .parentLost => 3),
              (if r.pg then 1 else 0), (if r.overrange then 1 else 0)] : List Byte)
              ++ (match r.lastRise with
                | none => [0, 0, 0]
                | some x => fieldBytes 2 x.value ++ ([match x.cls with | .fast => 1 | .ok => 2 | .slow => 3] : List Byte))
              ++ (match r.lastFall with
                | none => [0, 0, 0]
                | some x => fieldBytes 2 x.value ++ ([match x.cls with | .fast => 1 | .ok => 2 | .slow => 3] : List Byte))
              ++ fieldBytes 3 (r.riseAvg.getD 0xFFFFFF) ++ fieldBytes 3 (r.fallAvg.getD 0xFFFFFF)
              ++ [(if r.hold.isSome then 1 else 0), (if r.stray then 1 else 0), (if r.change then 1 else 0)]))))
      ∧ (∀ (table index : Byte), table.toNat ∈ [1, 2, 3, 4, 5, 6, 8, 9, 10, 11, 12, 13, 14] →
          indexInRange table.toNat index.toNat = true →
          ∃ record, s.readBytes table.toNat index.toNat = some record ∧ record.length ≤ 29
            ∧ exec (.domainStatusRead tag table index) s
                = .next (s.ends (s.answered tag table index .ok record))))
  ∧ (∀ s : State,
    let bytes (l : List Nat) : List Byte := l.map (BitVec.ofNat 8)
    let words (l : List Nat) : List Byte := l.flatMap (fieldBytes 2)
    let bit (k : Nat) (b : Bool) : Nat := if b then 2 ^ k else 0
    let step (t : Step) : List Byte :=
      bytes [t.kind.code, t.unit.code, t.action.code, t.place.code, t.level.code, t.signal.toNat, t.agent.toNat]
        ++ words [t.budget] ++ bytes [t.retryTarget, t.retryCount, t.label.toNat]
    let config (c : DomainConfig) : List Byte :=
      bytes [bit 0 c.present, optDomainCode c.parent, bit 0 c.pinned, bit 0 c.critical]
        ++ words [c.riseMin, c.riseMax, c.fallMin, c.fallMax, c.holdMin]
    let pattern (q : IndPattern) : List Byte :=
      bytes [q.mode.code] ++ words [q.period, q.onTime] ++ bytes [bit 0 q.inverted]
    (∀ k : SlotId,
        s.readBytes 1 k.val = some (bytes [(s.staged.plans.get k).count])
          ∧ s.readBytes 3 k.val = some (bytes [(s.active.plans.get k).count])
          ∧ ∀ i : Fin 32,
              s.readBytes 2 (32 * k.val + i.val) = some (step ((s.staged.plans.get k).steps.get i))
                ∧ s.readBytes 4 (32 * k.val + i.val) = some (step ((s.active.plans.get k).steps.get i)))
      ∧ (∀ d : DomainId, let x := (s.dom d).stats
        s.readBytes 5 d.val = some (config (s.staged.domains.get d))
          ∧ s.readBytes 6 d.val = some (config (s.active.domains.get d))
          ∧ s.readBytes 8 d.val
              = some (bytes [bit 0 (s.dom d).counting]
                  ++ words [x.riseOk, x.riseFast, x.riseSlow, x.fallOk, x.fallFast, x.fallSlow, x.timeouts, x.faults]))
      ∧ (∀ i : Fin 64, let e := s.signals.get i
        s.readBytes 9 i.val
          = some (bytes [bit 0 e.inUse, portCode e.port, e.agent.toNat, e.signal.toNat, e.action.code,
              e.newNumber.toNat, bit 0 e.track, (match e.wake with | none => 0 | some n => n.val),
              (match e.request with | none => 0 | some .suspend => 1 | some .hibernate => 2 | some .off => 3),
              bit 0 e.veto, bit 0 e.trip, bit 0 e.release, e.level.code]))
      ∧ (∀ n : SourceId, let w := s.wakes.get n
        let c := s.captures.get n
        s.readBytes 10 n.val
            = some (bytes [bit 0 w.enabled, w.binding.code, w.arm.toNat, bit 0 w.abortFlag, optDomainCode w.needs])
          ∧ s.readBytes 11 n.val
            = some (bytes [bit 0 c.captured, c.count, bit 0 c.overwritten] ++ words [c.milli.toNat]
                ++ bytes [(match c.platform with | none => 255 | some p => p.code), c.effect.code]))
      ∧ (∀ a : Fin 14, let r := s.agents.get a
        s.readBytes 12 (a.val + 1) = some (bytes [bit 0 r.present, optDomainCode r.powering, r.misses]))
      ∧ (∀ k : Fin 4,
        s.readBytes 13 k.val
          = some (pattern (s.indicator.buffered.get k) ++ pattern (s.indicator.working.get k)
              ++ (if k = 0 then bytes [s.button.debounce] ++ words [s.button.override] else [0, 0, 0])))
      ∧ s.readBytes 14 0
          = some (bytes [s.platform.code + 16 * s.requested.code,
                (match s.ctx.slot with | none => 255 | some k => k.val), s.ctx.index,
                (match s.currentStep with | none => 0 | some t => t.label.toNat),
                s.ctx.portion.code + bit 3 s.pendingWake.isSome + bit 4 s.pendingRequest + bit 5 s.requestStale
                  + bit 6 s.up.linkUp + bit 7 s.dn.linkUp,
                s.undo.length, (abortCode s.lastAbort).1, (abortCode s.lastAbort).2, wakeCauseCode s.wakeCause,
                (tripCode s.trip.first).1, (tripCode s.trip.first).2, s.trip.secondary]
              ++ words [s.notices.flags.toNat, s.notices.enables.toNat]
              ++ bytes [((List.finRange 8).map fun k => bit k.val (s.applyPending.get k)).sum,
                16 * (s.applyStatus.get 0).code + (s.applyStatus.get 1).code,
                16 * (s.applyStatus.get 2).code + (s.applyStatus.get 3).code,
                16 * (s.applyStatus.get 4).code + (s.applyStatus.get 5).code,
                16 * (s.applyStatus.get 6).code + (s.applyStatus.get 7).code]
              ++ words [s.up.errors, s.up.discards, s.dn.errors, s.dn.discards])
      ∧ s.statusBytes.length = 29)
  ∧ ([.run, .checking, .parked, .committing, .suspended, .hibernated, .softOff, .waking, .returning, .tripping,
      .tripped] : List PlatformState).map PlatformState.code = List.range 11
  ∧ ([.run, .low .suspend, .low .hibernate, .low .off] : List Requested).map Requested.code = List.range 4
  ∧ ([.enable, .disable, .awaitGood, .awaitLow, .delay, .emit, .sync, .guard, .park, .commit, .retry]
      : List StepKind).map StepKind.code = List.range 11
  ∧ ([.fine, .milli, .learned] : List StepUnit).map StepUnit.code = List.range 3
  ∧ ([.abort, .trip, .cont] : List FailAction).map FailAction.code = List.range 3
  ∧ (∀ d : DomainId, (DomOrPort.domain d).code = d.val ∧ optDomainCode (some d) = d.val)
  ∧ (DomOrPort.port .up).code = 10 ∧ (DomOrPort.port .dn).code = 11 ∧ optDomainCode none = 255
  ∧ ([.deasserted, .asserted] : List Level).map Level.code = List.range 2
  ∧ ([.deasserted, .asserted, .unknown] : List Tracked).map Tracked.code = List.range 3
  ∧ ([.pass, .drop, .map] : List SigAction).map SigAction.code = List.range 3
  ∧ ([.up, .dn] : List Port).map portCode = List.range 2
  ∧ ([.signal, .lineA, .lineB, .button] : List Binding).map Binding.code = List.range 4
  ∧ ([.none, .woke, .aborted, .pended] : List CaptureEffect).map CaptureEffect.code = List.range 4
  ∧ ([.off, .on, .blink] : List IndMode).map IndMode.code = List.range 3
  ∧ ([.none, .success, .inProgress, .rejEmpty, .rejShape, .rejReference, .rejDomainGraph, .rejLive]
      : List ApplyStatus).map ApplyStatus.code = List.range 8
  ∧ ([.none, .check, .commit, .exit, .trip, .rollback] : List Portion).map Portion.code = List.range 6
  ∧ ([.ok, .badTable, .badIndex, .badValue, .duplicate, .readOnly, .busy, .denied] : List CfgStatus).map CfgStatus.code
      = List.range 8
  ∧ (∀ (n : SourceId) (i : Nat),
      ([none, some .cancel, some .veto, some (.wake n), some (.step i), some .parkLimit] : List (Option AbortCause)).map
          abortCode = [(0, 0), (1, 0), (2, 0), (3, n.val), (4, i), (5, 0)]
        ∧ wakeCauseCode none = 0 ∧ wakeCauseCode (some (.source n)) = 16 + n.val ∧ wakeCauseCode (some .hub) = 32
        ∧ wakeCauseCode (some .powerRestore) = 33)
  ∧ ∀ (d : DomainId) (i : Nat),
      ([none, some (.criticalFault d), some .thermal, some .rollbackFailed, some (.exitFailed i), some (.entryFailed i),
          some (.retryExhausted i), some .override] : List (Option TripCause)).map tripCode
        = [(0, 0), (1, d.val), (2, 0), (3, 0), (4, i), (5, i), (6, i), (7, 0)]

/-- R186, R56: CLEAR_NOTICES, SET_NOTICE_ENABLE, RESTORE_STAGED, CLEAR_TRIP_RECORD and CLEAR_COUNTERS. -/
def Obligations.CommandsOfTableZero : Prop :=
  ∀ (tag : BitVec 4) (arg : BitVec 16) (s : State), s.ConfigReady →
    (arg.getLsbD 15 = false →
        exec (.clearNotices tag arg) s
            = .next (s.ends (State.answered
                { s with notices := { s.notices with flags := s.notices.flags &&& ~~~(arg.setWidth 15) } } tag 0 3 .ok []))
          ∧ exec (.setNoticeEnable tag arg) s
            = .next (s.ends (State.answered
                { s with notices := { s.notices with enables := arg.setWidth 15 } } tag 0 4 .ok [])))
      ∧ (arg.getLsbD 15 = true →
        exec (.clearNotices tag arg) s = .next (s.ends (s.answered tag 0 3 .badValue []))
          ∧ exec (.setNoticeEnable tag arg) s = .next (s.ends (s.answered tag 0 4 .badValue [])))
      ∧ exec (.restoreStaged tag arg) s = .next (s.ends (State.answered { s with staged := romSet } tag 0 5 .ok []))
      ∧ exec (.clearTripRecord tag arg) s
          = .next (s.ends (State.answered { s with trip := { first := none, secondary := 0 } } tag 0 6 .ok []))
      ∧ ∃ u : State, exec (.clearCounters tag arg) s = .next (s.ends (u.answered tag 0 7 .ok []))
          ∧ u = { s with
              up := { s.up with errors := 0, discards := 0 }, dn := { s.dn with errors := 0, discards := 0 },
              agents := u.agents }
          ∧ ∀ a : Fin 14, u.agents.get a = { s.agents.get a with misses := 0 }

/-- R169 to R172, R174: APPLY_AT_REST marks the items of its mask. APPLY_NOW with no plan running judges the items of
its mask, the domain set first and each plan against the set as it then stands, copies the accepted ones and writes
each outcome; with a plan running it is BUSY. -/
def Obligations.ApplyCommands : Prop :=
  ∀ (tag : BitVec 4) (arg : BitVec 16) (s : State), s.ConfigReady →
    (256 ≤ arg.toNat →
        exec (.applyNow tag arg) s = .next (s.ends (s.answered tag 0 1 .badValue []))
          ∧ exec (.applyAtRest tag arg) s = .next (s.ends (s.answered tag 0 2 .badValue [])))
      ∧ (arg.toNat < 256 →
        ∃ u : State, exec (.applyAtRest tag arg) s = .next (s.ends (u.answered tag 0 2 .ok []))
          ∧ u = { s with applyPending := u.applyPending, applyStatus := u.applyStatus }
          ∧ ∀ k : ItemId,
              u.applyPending.get k = (s.applyPending.get k || arg.getLsbD k.val)
                ∧ u.applyStatus.get k = if arg.getLsbD k.val then .inProgress else s.applyStatus.get k)
      ∧ (arg.toNat < 256 → s.platform.planRunning = true →
        exec (.applyNow tag arg) s = .next (s.ends (s.answered tag 0 1 .busy [])))
      ∧ (arg = 0 → s.platform.planRunning = false →
        exec (.applyNow tag arg) s = .next (s.ends (s.answered tag 0 1 .ok [])))
      ∧ (arg.toNat < 256 → arg ≠ 0 → s.platform.planRunning = false →
        let base := if arg.getLsbD 7 then s.applyDomains else s
        ∃ u : State, exec (.applyNow tag arg) s = .next (s.ends ((u.notify .applyDone).answered tag 0 1 .ok []))
          ∧ u = { s with
              active := u.active, domains := base.domains, notices := base.notices,
              applyPending := u.applyPending, applyStatus := u.applyStatus }
          ∧ u.active.domains
              = (if arg.getLsbD 7 = true ∧ s.judgeDomainSet s.staged.domains = .success then s.staged.domains
                 else s.active.domains)
          ∧ u.applyPending.get 7 = (s.applyPending.get 7 && !arg.getLsbD 7)
          ∧ u.applyStatus.get 7
              = (if arg.getLsbD 7 then s.judgeDomainSet s.staged.domains else s.applyStatus.get 7)
          ∧ ∀ k : SlotId,
              let outcome := base.judgePlan k (s.staged.plans.get k)
              u.active.plans.get k
                  = (if arg.getLsbD k.val = true ∧ outcome = .success then s.staged.plans.get k
                     else s.active.plans.get k)
                ∧ u.applyPending.get k.castSucc = (s.applyPending.get k.castSucc && !arg.getLsbD k.val)
                ∧ u.applyStatus.get k.castSucc
                  = (if arg.getLsbD k.val then outcome else s.applyStatus.get k.castSucc))

/-- R167, R168: how a domain set and a plan are judged: the first class that rejects gives the outcome. The parents of a
set's present domains are present and form no cycle exactly where a rank falls along every parent field. R170, R84, R99,
R82: the copy of an accepted domain set: a removed domain is OFF with its hold-off idle; a changed window forgets its
average; a domain that becomes pinned, or a pinned one whose parent changes, is enabled where it is due; every other
field stands; one notice stands for all. -/
def Obligations.ItemsAreJudgedAndCopied : Prop :=
  (∀ (ds : Vector DomainConfig 10) (s : State),
    let graph : Prop :=
      (∃ rank : DomainId → Nat, ∀ d p, (ds.get d).present = true → (ds.get d).parent = some p →
          (ds.get p).present = true ∧ rank p < rank d)
        ∧ (∀ d p, (ds.get d).present = true → (ds.get d).pinned = true → (ds.get d).parent = some p →
            (ds.get p).pinned = true)
        ∧ ∀ d, (ds.get d).present = false → (ds.get d).pinned = false ∧ (ds.get d).critical = false
    let removesNamed : Prop :=
      ∃ d, (s.cfg d).present = true ∧ (ds.get d).present = false
        ∧ ∃ (k : SlotId) (i : Nat) (t : Step), (s.active.plans.get k).step? i = some t ∧ t.place = .domain d
            ∧ (t.kind = .enable ∨ t.kind = .disable ∨ t.kind = .awaitGood ∨ t.kind = .awaitLow)
    let strandsLive : Prop :=
      ∃ d, ((s.dom d).state = .rising ∨ (s.dom d).state = .on)
            ∧ (∃ p, (ds.get d).parent = some p ∧ (s.dom p).state ≠ .on)
          ∨ ((s.dom d).state = .rising ∨ (s.dom d).state = .on ∨ (s.dom d).state = .falling)
            ∧ (ds.get d).present = false
    (¬ graph → s.judgeDomainSet ds = .rejDomainGraph)
      ∧ (graph → removesNamed → s.judgeDomainSet ds = .rejReference)
      ∧ (graph → ¬ removesNamed → strandsLive → s.judgeDomainSet ds = .rejLive)
      ∧ (graph → ¬ removesNamed → ¬ strandsLive → s.judgeDomainSet ds = .success))
  ∧ (∀ (k : SlotId) (p : Plan) (s : State),
    let commits (c : Nat) : Prop := ∃ t, p.step? c = some t ∧ t.kind = .commit
    let parks (c : Nat) : Prop := ∃ t, p.step? c = some t ∧ t.kind = .park
    let shape : Prop :=
      (k.val ≤ 2 →
          (∃ c, commits c ∧ (∀ j, commits j → j = c) ∧ ∀ j, parks j → j < c) ∧ ∀ i j, parks i → parks j → i = j)
        ∧ ∀ i t, p.step? i = some t →
          (t.kind = .park ∨ t.kind = .commit → k.val ≤ 2)
            ∧ (t.kind = .enable ∨ t.kind = .awaitGood ∨ t.kind = .sync ∨ t.kind = .guard ∨ t.kind = .retry → k.val ≤ 5)
            ∧ (t.kind = .park → t.unit = .milli)
            ∧ (t.unit = .learned → t.kind = .awaitGood ∨ t.kind = .awaitLow)
            ∧ (t.action = .abort → k.val ≤ 2 ∧ ∃ c, commits c ∧ i < c)
            ∧ (t.action = .trip → k.val ≤ 5)
            ∧ (t.kind = .retry → t.retryTarget < i
                ∧ ∀ c, k.val ≤ 2 → commits c → c < i → c < t.retryTarget)
    let reaches : Prop :=
      ∀ i t, p.step? i = some t →
        (t.kind = .enable ∨ t.kind = .disable ∨ t.kind = .awaitGood ∨ t.kind = .awaitLow →
            ∃ d, t.place = .domain d ∧ (s.cfg d).present = true)
          ∧ (t.kind = .emit ∨ t.kind = .sync → ∃ r, t.place = .port r)
          ∧ (t.kind = .guard →
            ∃ r e, t.place = .port r ∧ s.lookup r t.agent t.signal = some e ∧ e.track = true)
    (p.count = 0 → s.judgePlan k p = .rejEmpty)
      ∧ (p.count ≠ 0 → ¬ shape → s.judgePlan k p = .rejShape)
      ∧ (p.count ≠ 0 → shape → ¬ reaches → s.judgePlan k p = .rejReference)
      ∧ (p.count ≠ 0 → shape → reaches → s.judgePlan k p = .success))
  ∧ ∀ (ds : Vector DomainConfig 10) (s : State), s.judgeDomainSet ds = .success →
    let u := s.copyDomainSet ds
    let removed (d : DomainId) : Bool := (s.cfg d).present && !(ds.get d).present
    let due (d : DomainId) : Prop :=
      (ds.get d).present = true ∧ (ds.get d).pinned = true
        ∧ ((s.cfg d).pinned = false ∨ (ds.get d).parent ≠ (s.cfg d).parent)
        ∧ ((s.dom d).state = .off ∨ (s.dom d).state = .fault) ∧ (s.dom d).hold = none ∧ (s.dom d).pg = false
        ∧ ∀ p, (ds.get d).parent = some p → (s.dom p).state = .on
    let copied (d : DomainId) : DomainRuntime := { s.dom d with
      state := if removed d then .off else (s.dom d).state,
      hold := if removed d then none else (s.dom d).hold,
      change := (s.dom d).change || removed d && (s.dom d).state == .fault,
      riseAvg :=
        if (s.cfg d).riseMin = (ds.get d).riseMin ∧ (s.cfg d).riseMax = (ds.get d).riseMax then (s.dom d).riseAvg
        else none,
      fallAvg :=
        if (s.cfg d).fallMin = (ds.get d).fallMin ∧ (s.cfg d).fallMax = (ds.get d).fallMax then (s.dom d).fallAvg
        else none }
    let moves : Prop := ∃ d, removed d = true ∧ (s.dom d).state = .fault ∨ due d
    u = { s with active := { s.active with domains := ds }, domains := u.domains, notices := u.notices }
      ∧ (∀ d, (due d →
            u.dom d = { copied d with
              state := .rising, overrange := false, stray := false, rampStart := s.fine, change := true })
          ∧ (¬ due d → u.dom d = copied d))
      ∧ (moves → u.notices = s.notices.raise .domainChanged) ∧ (¬ moves → u.notices = s.notices)

/-- R166: writes of the staged tables: a header, a whole step record, a step's budget alone, a whole domain record. A
value out of its range is refused, and nothing is written. -/
def Obligations.StagedWritesReplaceRecords : Prop :=
  ∀ (tag : BitVec 4) (k : SlotId) (s : State), s.ConfigReady →
    let setPlan (p : Plan) : State := { s with staged := { s.staged with plans := s.staged.plans.set k p } }
    let plan := s.staged.plans.get k
    (∀ n : Byte,
        (n.toNat ≤ 32 →
          exec (.stagedWrite tag .planHeader (BitVec.ofNat 8 k.val) 1 [n]) s
            = .next (s.ends ((setPlan { plan with count := n.toNat }).answered tag 1 (BitVec.ofNat 8 k.val) .ok [])))
        ∧ (32 < n.toNat →
          exec (.stagedWrite tag .planHeader (BitVec.ofNat 8 k.val) 1 [n]) s
            = .next (s.ends (s.answered tag 1 (BitVec.ofNat 8 k.val) .badValue []))))
      ∧ (∀ (i : Fin 32) (t : Step),
        let at_ := BitVec.ofNat 8 (32 * k.val + i.val)
        let bytes := [t.kind.code, t.unit.code, t.action.code, t.place.code, t.level.code, t.signal.toNat,
            t.agent.toNat].map (BitVec.ofNat 8)
          ++ fieldBytes 2 t.budget ++ [t.retryTarget, t.retryCount, t.label.toNat].map (BitVec.ofNat 8)
        (t.wf = true →
            exec (.stagedWrite tag .planStep at_ 0x7FF bytes) s
              = .next (s.ends ((setPlan { plan with steps := plan.steps.set i t }).answered tag 2 at_ .ok [])))
          ∧ (t.wf = false → t.budget ≤ 65535 → t.retryTarget ≤ 255 → t.retryCount ≤ 255 →
            exec (.stagedWrite tag .planStep at_ 0x7FF bytes) s = .next (s.ends (s.answered tag 2 at_ .badValue [])))
          ∧ (∀ n, n ≤ 65535 → (plan.steps.get i).wf = true → Step.wf { plan.steps.get i with budget := n } = true →
            exec (.stagedWrite tag .planStep at_ 0x80 (fieldBytes 2 n)) s
              = .next (s.ends ((setPlan { plan with
                  steps := plan.steps.set i { plan.steps.get i with budget := n } }).answered tag 2 at_ .ok []))))
      ∧ (∀ (d : DomainId) (c : DomainConfig),
        let bytes := [boolCode c.present, optDomainCode c.parent, boolCode c.pinned, boolCode c.critical].map (BitVec.ofNat 8)
          ++ fieldBytes 2 c.riseMin ++ fieldBytes 2 c.riseMax ++ fieldBytes 2 c.fallMin ++ fieldBytes 2 c.fallMax
          ++ fieldBytes 2 c.holdMin
        (c.wf = true →
            exec (.stagedWrite tag .domainConfig (BitVec.ofNat 8 d.val) 0x1FF bytes) s
              = .next (s.ends (State.answered
                  { s with staged := { s.staged with domains := s.staged.domains.set d c } } tag 5
                  (BitVec.ofNat 8 d.val) .ok [])))
          ∧ (c.wf = false → c.riseMin ≤ 65535 → c.riseMax ≤ 65535 → c.fallMin ≤ 65535 → c.fallMax ≤ 65535 →
              c.holdMin ≤ 65535 →
            exec (.stagedWrite tag .domainConfig (BitVec.ofNat 8 d.val) 0x1FF bytes) s
              = .next (s.ends (s.answered tag 5 (BitVec.ofNat 8 d.val) .badValue []))))

/-- R132 to R134, R184: a write of a signal-table entry, whole or in part. The record as it would stand is refused where
it breaks a test of R132, and where it would stand in use with another in-use entry's key; otherwise it replaces the
entry, whose tracked level stands where key, in-use and TRACK do. The tracked level cannot be written. -/
def Obligations.SignalTableWrites : Prop :=
  (∀ e : SignalEntry, e.wf = true ↔
      e.agent.toNat ≤ 14
        ∧ (e.request ≠ none ∨ e.release = true ∨ e.trip = true → e.port = .up)
        ∧ (e.wake ≠ none → e.port = .dn)
        ∧ (e.request ≠ none ∨ e.veto = true ∨ e.trip = true ∨ e.release = true → e.track = true))
  ∧ ∀ (tag : BitVec 4) (i : Fin 64) (s : State), s.ConfigReady →
    let old := s.signals.get i
    let at_ := BitVec.ofNat 8 i.val
    let judged (e : SignalEntry) (mask : BitVec 16) (bytes : List Byte) : Prop :=
      let twin := ∃ j, j ≠ i ∧ (s.signals.get j).inUse = true ∧ (s.signals.get j).port = e.port
        ∧ (s.signals.get j).agent = e.agent ∧ (s.signals.get j).signal = e.signal
      (e.wf = false →
          exec (.signalTableWrite tag at_ mask bytes) s = .next (s.ends (s.answered tag 9 at_ .badValue [])))
        ∧ (e.wf = true → e.inUse = true → twin →
          exec (.signalTableWrite tag at_ mask bytes) s = .next (s.ends (s.answered tag 9 at_ .duplicate [])))
        ∧ (e.wf = true → e.inUse = false ∨ ¬ twin →
          ∃ lv : Tracked,
            exec (.signalTableWrite tag at_ mask bytes) s
              = .next (s.ends (State.answered
                  { s with signals := s.signals.set i { e with level := lv } } tag 9 at_ .ok []))
            ∧ (old.port = e.port ∧ old.agent = e.agent ∧ old.signal = e.signal ∧ old.inUse = e.inUse
                ∧ old.track = e.track → lv = old.level)
            ∧ (¬ (old.port = e.port ∧ old.agent = e.agent ∧ old.signal = e.signal ∧ old.inUse = e.inUse
                ∧ old.track = e.track) → lv = .unknown))
    (∀ e : SignalEntry, e.wake ≠ some 0 →
        judged e 0xFFF
          [if e.inUse then 1 else 0, match e.port with | .up => 0 | .dn => 1, e.agent.setWidth 8, e.signal,
            match e.action with | .pass => 0 | .drop => 1 | .map => 2, e.newNumber, if e.track then 1 else 0,
            match e.wake with | none => 0 | some n => BitVec.ofNat 8 n.val,
            match e.request with | none => 0 | some .suspend => 1 | some .hibernate => 2 | some .off => 3,
            if e.veto then 1 else 0, if e.trip then 1 else 0, if e.release then 1 else 0])
      ∧ (old.wake ≠ some 0 →
        (∀ b : Bool,
          judged { old with inUse := b } 1 [if b then 1 else 0]
            ∧ judged { old with track := b } 0x40 [if b then 1 else 0])
        ∧ ∀ (a : BitVec 4) (n : Byte), judged { old with agent := a, signal := n } 0xC [a.setWidth 8, n])
      ∧ (∀ (mask : BitVec 16) (values : List Byte), valuesFit values = true → mask.getLsbD 12 = true →
        exec (.signalTableWrite tag at_ mask values) s = .next (s.ends (s.answered tag 9 at_ .badValue [])))

/-- R103, R104: writes of the wake table. The record of W0 keeps its values whatever is written, and so W0 is armed in
every rest state and aborts an entry. -/
def Obligations.WakeTableWrites : Prop :=
  ∀ (tag : BitVec 4) (s : State), s.ConfigReady →
    (∀ (n : SourceId) (w : WakeRecord), n ≠ 0 →
        (w.binding ≠ .button →
          exec (.wakeTableWrite tag (BitVec.ofNat 8 n.val) 0x1F (w.fields.map (BitVec.ofNat 8))) s
            = .next (s.ends (State.answered
                { s with wakes := s.wakes.set n w } tag 10 (BitVec.ofNat 8 n.val) .ok [])))
        ∧ (w.binding = .button →
          exec (.wakeTableWrite tag (BitVec.ofNat 8 n.val) 0x1F (w.fields.map (BitVec.ofNat 8))) s
            = .next (s.ends (s.answered tag 10 (BitVec.ofNat 8 n.val) .badValue []))))
      ∧ (∀ (w : WakeRecord),
        (w = { enabled := true, binding := .button, arm := 15, abortFlag := true, needs := none } →
          exec (.wakeTableWrite tag 0 0x1F (w.fields.map (BitVec.ofNat 8))) s
            = .next (s.ends (s.answered tag 10 0 .ok [])))
        ∧ (w ≠ { enabled := true, binding := .button, arm := 15, abortFlag := true, needs := none } →
          exec (.wakeTableWrite tag 0 0x1F (w.fields.map (BitVec.ofNat 8))) s
            = .next (s.ends (s.answered tag 10 0 .badValue []))))
      ∧ (s.ButtonSourceFixed →
        (∀ i f t, requestOf i = some f → exec i s = .next t → t.ButtonSourceFixed)
          ∧ (s.platform = .suspended ∨ s.platform = .hibernated ∨ s.platform = .softOff ∨ s.platform = .tripped →
              s.judgeArrival 0 = .woke)
          ∧ (s.platform = .checking ∨ s.platform = .parked → s.judgeArrival 0 = .aborted))

/-- R116: a write to a capture record, with any mask, clears the record and touches nothing else; a read changes
nothing. An arrival after the write finds the record clear. -/
def Obligations.CaptureRecordIsCleared : Prop :=
  ∀ (tag : BitVec 4) (n : SourceId) (mask : BitVec 16) (values : List Byte) (s : State), s.ConfigReady →
    let clear : CaptureRecord :=
      { captured := false, count := 0, overwritten := false, milli := 0, platform := none, effect := .none }
    let cleared : State := { s with captures := s.captures.set n clear }
    (valuesFit values = true →
        exec (.captureRecordClear tag (BitVec.ofNat 8 n.val) mask values) s
          = .next (s.ends (cleared.answered tag 11 (BitVec.ofNat 8 n.val) .ok [])))
      ∧ exec (.domainStatusRead tag 11 (BitVec.ofNat 8 n.val)) s
          = .next (s.ends (s.answered tag 11 (BitVec.ofNat 8 n.val) .ok
              (let c := s.captures.get n
               [if c.captured then 1 else 0, BitVec.ofNat 8 c.count, if c.overwritten then 1 else 0]
                 ++ fieldBytes 2 c.milli.toNat
                 ++ [match c.platform with | none => 0xFF | some p => BitVec.ofNat 8 p.code,
                     BitVec.ofNat 8 c.effect.code])))
      ∧ (∀ e, (cleared.capture n e).captures.get n
            = { captured := true, count := 1, overwritten := false, milli := s.milli,
                platform := some s.platform, effect := e }
          ∧ (cleared.capture n e).notices = s.notices.raise .wakeCaptured)

/-- R160, R87: writes of an agent record and of a counting enable. -/
def Obligations.AgentAndCountingWrites : Prop :=
  ∀ (tag : BitVec 4) (s : State), s.ConfigReady →
    (∀ (i : Fin 14) (present : Bool) (powering : Option DomainId) (m : Byte),
      let at_ := BitVec.ofNat 8 (i.val + 1)
      let bytes : List Byte := [if present then 1 else 0, BitVec.ofNat 8 (optDomainCode powering)]
      exec (.agentTableWrite tag at_ 3 bytes) s
          = .next (s.ends (State.answered { s with
              agents := s.agents.set i { s.agents.get i with present := present, powering := powering } } tag 12 at_ .ok []))
        ∧ (m = 0 → exec (.agentTableWrite tag at_ 7 (bytes ++ [m])) s
          = .next (s.ends (State.answered { s with
              agents := s.agents.set i { present := present, powering := powering, misses := 0 } } tag 12 at_ .ok [])))
        ∧ (m ≠ 0 → exec (.agentTableWrite tag at_ 7 (bytes ++ [m])) s
          = .next (s.ends (s.answered tag 12 at_ .badValue [])))
        ∧ (1 < m.toNat → exec (.agentTableWrite tag at_ 1 [m]) s
          = .next (s.ends (s.answered tag 12 at_ .badValue []))))
      ∧ (∀ (d : DomainId) (v : Byte),
        let at_ := BitVec.ofNat 8 d.val
        let r := s.dom d
        (v = 1 → exec (.countingEnableWrite tag at_ 1 [v]) s
            = .next (s.ends (State.answered
                (s.setDom d { r with counting := true, stats := if r.counting then r.stats else zeroStats }) tag 8 at_ .ok [])))
          ∧ (v = 0 → exec (.countingEnableWrite tag at_ 1 [v]) s
            = .next (s.ends (State.answered (s.setDom d { r with counting := false }) tag 8 at_ .ok [])))
          ∧ (1 < v.toNat → exec (.countingEnableWrite tag at_ 1 [v]) s
            = .next (s.ends (s.answered tag 8 at_ .badValue []))))

/-- R120, R126, Table 11-3: writes of a pattern and of the button's times, which stand at index 0 alone. -/
def Obligations.PatternAndTimesWrites : Prop :=
  ∀ (tag : BitVec 4) (k : Fin 4) (q : IndPattern) (d o : Nat) (s : State), s.ConfigReady →
    let at_ := BitVec.ofNat 8 k.val
    let u := s.indicator
    let pattern : List Byte :=
      ([match q.mode with | .off => 0 | .on => 1 | .blink => 2] : List Byte) ++ fieldBytes 2 q.period
        ++ fieldBytes 2 q.onTime ++ ([if q.inverted then 1 else 0] : List Byte)
    let times : List Byte := BitVec.ofNat 8 d :: fieldBytes 2 o
    (q.wf = true → k ≠ s.selected →
        exec (.indicatorPatternWrite tag at_ 0xF pattern) s
          = .next (s.ends (State.answered { s with indicator := { u with
              buffered := u.buffered.set k q, working := u.working.set k q } } tag 13 at_ .ok [])))
      ∧ (q.wf = true → k = s.selected →
        exec (.indicatorPatternWrite tag at_ 0xF pattern) s
          = .next (s.ends (State.answered { s with indicator := { u with
              buffered := u.buffered.set k q } } tag 13 at_ .ok [])))
      ∧ (q.wf = false → q.period ≤ 65535 → q.onTime ≤ 65535 →
        exec (.indicatorPatternWrite tag at_ 0xF pattern) s = .next (s.ends (s.answered tag 13 at_ .badValue [])))
      ∧ (d ≤ 255 → o ≤ 65535 →
        (1 ≤ d ∧ 62 ≤ o ∧ o ≤ 1000 ∧ d < o →
          exec (.buttonTimesWrite tag 0 0x300 times) s
            = .next (s.ends (State.answered
                { s with button := { s.button with debounce := d, override := o } } tag 13 0 .ok [])))
        ∧ (¬ (1 ≤ d ∧ 62 ≤ o ∧ o ≤ 1000 ∧ d < o) →
          exec (.buttonTimesWrite tag 0 0x300 times) s = .next (s.ends (s.answered tag 13 0 .badValue [])))
        ∧ (k ≠ 0 →
          exec (.buttonTimesWrite tag at_ 0x300 times) s = .next (s.ends (s.answered tag 13 at_ .badValue []))))

/-! ## Encoding and invariants -/

/-- R147 to R149, Table 9-1: a well-formed frame's wire bytes are read back as it, and every sequence that is read as a
frame is that frame's wire bytes. -/
def Obligations.FramesReadBack : Prop :=
  ∀ (f : Frame) (bytes : List Byte),
    (f.wf = true → parseFrame f.wire = some f)
      ∧ (parseFrame bytes = some f → f.wf = true ∧ f.wire = bytes)

/-- R153, R146, R154, R147, R149: every step keeps the queues within their capacities, DOWN ports empty, and every frame
in the part well formed. -/
def Obligations.StepKeepsLinkSound : Prop :=
  ∀ s t : State, s.QueuesBounded ∧ s.DownPortsEmpty ∧ s.FramesSound → step s = .next t →
    t.QueuesBounded ∧ t.DownPortsEmpty ∧ t.FramesSound

/-- R132 to R134, R103, R109, R174, R119 to R124, R126 to R130: every step keeps the signal table, the record of W0, the
capture records, the apply statuses, the counters, the button and the indicator sound. -/
def Obligations.StepKeepsUnitsSound : Prop :=
  ∀ s t : State,
    s.SignalsSound ∧ s.ButtonSourceFixed ∧ s.CapturesSound ∧ s.MarksMatch ∧ s.CountersBounded ∧ s.ButtonSound
      ∧ s.IndicatorSound →
    step s = .next t →
    t.SignalsSound ∧ t.ButtonSourceFixed ∧ t.CapturesSound ∧ t.MarksMatch ∧ t.CountersBounded ∧ t.ButtonSound
      ∧ t.IndicatorSound

/-- R43, R98, R101, R166: every step keeps both sets' records in range, the ramp figures within theirs, and at most one
undo record for a subject. -/
def Obligations.StepKeepsSetsAndUndoSound : Prop :=
  ∀ s t : State, s.RampsSound ∧ s.UndoDistinct → step s = .next t → t.RampsSound ∧ t.UndoDistinct

/-- R1 to R3, R12, R16, R17, R21 to R24, R36, R46, R49, R55, R167, R168: every step keeps the sequencer sound: a plan runs
exactly in the six states that run one, with the slot, the portion, the current step and the wait that belong to the
state; at rest the context is released; the undo stack stands only in an entry's check portion and in its rollback; the
marks stand only in their states; the active plans keep their shape and name present domains. -/
def Obligations.StepKeepsSequencerSound : Prop :=
  ∀ s t : State, s.SequencerSound → step s = .next t → t.SequencerSound

/-- R70, R64, R66, R43, R167: every step keeps the domain controller's invariant, and every domain that the undo stack
and the rollback's record name present, while the active plans and the wait name present domains. -/
def Obligations.StepKeepsDomainsSound : Prop :=
  ∀ s t : State, s.SequencerSound ∧ s.RecordsPresent ∧ s.DomainsSound → step s = .next t →
    t.RecordsPresent ∧ t.DomainsSound
end

