-- ==== Sys2Proof/Laws/State.lean ====
section
/-! SUPPORT. What each update of State leaves of each field, so that no later proof unfolds a record update. -/

namespace Sys2Proof.Machine

open Sys2Proof

/-! ## Vectors -/

theorem get_eq_getElem {α : Type} {n : Nat} (v : Vector α n) (i : Fin n) : v.get i = v[i.val] := rfl

/-- Reading a vector after one place of it is written. -/
theorem get_set {α : Type} {n : Nat} (v : Vector α n) (i j : Fin n) (x : α) :
    (v.set i.val x i.isLt).get j = if j = i then x else v.get j := by
  rw [get_eq_getElem, get_eq_getElem, Vector.getElem_set]
  simp only [Fin.ext_iff, eq_comm]

@[simp] theorem get_set_self {α : Type} {n : Nat} (v : Vector α n) (i : Fin n) (x : α) :
    (v.set i.val x i.isLt).get i = x := by
  rw [get_set, if_pos rfl]

theorem get_set_of_ne {α : Type} {n : Nat} (v : Vector α n) {i j : Fin n} (x : α) (h : j ≠ i) :
    (v.set i.val x i.isLt).get j = v.get j := by
  rw [get_set, if_neg h]

/-! ## setDom -/

@[simp] theorem State.setDom_fine (s : State) (d : DomainId) (r : DomainRuntime) : (s.setDom d r).fine = s.fine := rfl
@[simp] theorem State.setDom_milli (s : State) (d : DomainId) (r : DomainRuntime) : (s.setDom d r).milli = s.milli := rfl
@[simp] theorem State.setDom_platform (s : State) (d : DomainId) (r : DomainRuntime) : (s.setDom d r).platform = s.platform := rfl
@[simp] theorem State.setDom_requested (s : State) (d : DomainId) (r : DomainRuntime) : (s.setDom d r).requested = s.requested := rfl
@[simp] theorem State.setDom_ctx (s : State) (d : DomainId) (r : DomainRuntime) : (s.setDom d r).ctx = s.ctx := rfl
@[simp] theorem State.setDom_undo (s : State) (d : DomainId) (r : DomainRuntime) : (s.setDom d r).undo = s.undo := rfl
@[simp] theorem State.setDom_emittedUp (s : State) (d : DomainId) (r : DomainRuntime) : (s.setDom d r).emittedUp = s.emittedUp := rfl
@[simp] theorem State.setDom_emittedDn (s : State) (d : DomainId) (r : DomainRuntime) : (s.setDom d r).emittedDn = s.emittedDn := rfl
@[simp] theorem State.setDom_pendingWake (s : State) (d : DomainId) (r : DomainRuntime) : (s.setDom d r).pendingWake = s.pendingWake := rfl
@[simp] theorem State.setDom_pendingRequest (s : State) (d : DomainId) (r : DomainRuntime) : (s.setDom d r).pendingRequest = s.pendingRequest := rfl
@[simp] theorem State.setDom_requestStale (s : State) (d : DomainId) (r : DomainRuntime) : (s.setDom d r).requestStale = s.requestStale := rfl
@[simp] theorem State.setDom_lastAbort (s : State) (d : DomainId) (r : DomainRuntime) : (s.setDom d r).lastAbort = s.lastAbort := rfl
@[simp] theorem State.setDom_wakeCause (s : State) (d : DomainId) (r : DomainRuntime) : (s.setDom d r).wakeCause = s.wakeCause := rfl
@[simp] theorem State.setDom_trip (s : State) (d : DomainId) (r : DomainRuntime) : (s.setDom d r).trip = s.trip := rfl
@[simp] theorem State.setDom_staged (s : State) (d : DomainId) (r : DomainRuntime) : (s.setDom d r).staged = s.staged := rfl
@[simp] theorem State.setDom_active (s : State) (d : DomainId) (r : DomainRuntime) : (s.setDom d r).active = s.active := rfl
@[simp] theorem State.setDom_applyPending (s : State) (d : DomainId) (r : DomainRuntime) : (s.setDom d r).applyPending = s.applyPending := rfl
@[simp] theorem State.setDom_applyStatus (s : State) (d : DomainId) (r : DomainRuntime) : (s.setDom d r).applyStatus = s.applyStatus := rfl
@[simp] theorem State.setDom_wakes (s : State) (d : DomainId) (r : DomainRuntime) : (s.setDom d r).wakes = s.wakes := rfl
@[simp] theorem State.setDom_captures (s : State) (d : DomainId) (r : DomainRuntime) : (s.setDom d r).captures = s.captures := rfl
@[simp] theorem State.setDom_wakeA (s : State) (d : DomainId) (r : DomainRuntime) : (s.setDom d r).wakeA = s.wakeA := rfl
@[simp] theorem State.setDom_wakeB (s : State) (d : DomainId) (r : DomainRuntime) : (s.setDom d r).wakeB = s.wakeB := rfl
@[simp] theorem State.setDom_button (s : State) (d : DomainId) (r : DomainRuntime) : (s.setDom d r).button = s.button := rfl
@[simp] theorem State.setDom_indicator (s : State) (d : DomainId) (r : DomainRuntime) : (s.setDom d r).indicator = s.indicator := rfl
@[simp] theorem State.setDom_signals (s : State) (d : DomainId) (r : DomainRuntime) : (s.setDom d r).signals = s.signals := rfl
@[simp] theorem State.setDom_agents (s : State) (d : DomainId) (r : DomainRuntime) : (s.setDom d r).agents = s.agents := rfl
@[simp] theorem State.setDom_up (s : State) (d : DomainId) (r : DomainRuntime) : (s.setDom d r).up = s.up := rfl
@[simp] theorem State.setDom_dn (s : State) (d : DomainId) (r : DomainRuntime) : (s.setDom d r).dn = s.dn := rfl
@[simp] theorem State.setDom_queues (s : State) (d : DomainId) (r : DomainRuntime) : (s.setDom d r).queues = s.queues := rfl
@[simp] theorem State.setDom_notices (s : State) (d : DomainId) (r : DomainRuntime) : (s.setDom d r).notices = s.notices := rfl
@[simp] theorem State.setDom_rpol (s : State) (d : DomainId) (r : DomainRuntime) : (s.setDom d r).rpol = s.rpol := rfl
@[simp] theorem State.setDom_pending (s : State) (d : DomainId) (r : DomainRuntime) : (s.setDom d r).pending = s.pending := rfl

/-! ## notify -/

@[simp] theorem State.notify_fine (s : State) (n : Notice) : (s.notify n).fine = s.fine := rfl
@[simp] theorem State.notify_milli (s : State) (n : Notice) : (s.notify n).milli = s.milli := rfl
@[simp] theorem State.notify_platform (s : State) (n : Notice) : (s.notify n).platform = s.platform := rfl
@[simp] theorem State.notify_requested (s : State) (n : Notice) : (s.notify n).requested = s.requested := rfl
@[simp] theorem State.notify_ctx (s : State) (n : Notice) : (s.notify n).ctx = s.ctx := rfl
@[simp] theorem State.notify_undo (s : State) (n : Notice) : (s.notify n).undo = s.undo := rfl
@[simp] theorem State.notify_emittedUp (s : State) (n : Notice) : (s.notify n).emittedUp = s.emittedUp := rfl
@[simp] theorem State.notify_emittedDn (s : State) (n : Notice) : (s.notify n).emittedDn = s.emittedDn := rfl
@[simp] theorem State.notify_pendingWake (s : State) (n : Notice) : (s.notify n).pendingWake = s.pendingWake := rfl
@[simp] theorem State.notify_pendingRequest (s : State) (n : Notice) : (s.notify n).pendingRequest = s.pendingRequest := rfl
@[simp] theorem State.notify_requestStale (s : State) (n : Notice) : (s.notify n).requestStale = s.requestStale := rfl
@[simp] theorem State.notify_lastAbort (s : State) (n : Notice) : (s.notify n).lastAbort = s.lastAbort := rfl
@[simp] theorem State.notify_wakeCause (s : State) (n : Notice) : (s.notify n).wakeCause = s.wakeCause := rfl
@[simp] theorem State.notify_trip (s : State) (n : Notice) : (s.notify n).trip = s.trip := rfl
@[simp] theorem State.notify_domains (s : State) (n : Notice) : (s.notify n).domains = s.domains := rfl
@[simp] theorem State.notify_staged (s : State) (n : Notice) : (s.notify n).staged = s.staged := rfl
@[simp] theorem State.notify_active (s : State) (n : Notice) : (s.notify n).active = s.active := rfl
@[simp] theorem State.notify_applyPending (s : State) (n : Notice) : (s.notify n).applyPending = s.applyPending := rfl
@[simp] theorem State.notify_applyStatus (s : State) (n : Notice) : (s.notify n).applyStatus = s.applyStatus := rfl
@[simp] theorem State.notify_wakes (s : State) (n : Notice) : (s.notify n).wakes = s.wakes := rfl
@[simp] theorem State.notify_captures (s : State) (n : Notice) : (s.notify n).captures = s.captures := rfl
@[simp] theorem State.notify_wakeA (s : State) (n : Notice) : (s.notify n).wakeA = s.wakeA := rfl
@[simp] theorem State.notify_wakeB (s : State) (n : Notice) : (s.notify n).wakeB = s.wakeB := rfl
@[simp] theorem State.notify_button (s : State) (n : Notice) : (s.notify n).button = s.button := rfl
@[simp] theorem State.notify_indicator (s : State) (n : Notice) : (s.notify n).indicator = s.indicator := rfl
@[simp] theorem State.notify_signals (s : State) (n : Notice) : (s.notify n).signals = s.signals := rfl
@[simp] theorem State.notify_agents (s : State) (n : Notice) : (s.notify n).agents = s.agents := rfl
@[simp] theorem State.notify_up (s : State) (n : Notice) : (s.notify n).up = s.up := rfl
@[simp] theorem State.notify_dn (s : State) (n : Notice) : (s.notify n).dn = s.dn := rfl
@[simp] theorem State.notify_queues (s : State) (n : Notice) : (s.notify n).queues = s.queues := rfl
@[simp] theorem State.notify_rpol (s : State) (n : Notice) : (s.notify n).rpol = s.rpol := rfl
@[simp] theorem State.notify_pending (s : State) (n : Notice) : (s.notify n).pending = s.pending := rfl

/-! ## notifyIf -/

@[simp] theorem State.notifyIf_fine (s : State) (c : Bool) (n : Notice) : (s.notifyIf c n).fine = s.fine := by
  cases c <;> rfl
@[simp] theorem State.notifyIf_milli (s : State) (c : Bool) (n : Notice) : (s.notifyIf c n).milli = s.milli := by
  cases c <;> rfl
@[simp] theorem State.notifyIf_platform (s : State) (c : Bool) (n : Notice) : (s.notifyIf c n).platform = s.platform := by
  cases c <;> rfl
@[simp] theorem State.notifyIf_requested (s : State) (c : Bool) (n : Notice) : (s.notifyIf c n).requested = s.requested := by
  cases c <;> rfl
@[simp] theorem State.notifyIf_ctx (s : State) (c : Bool) (n : Notice) : (s.notifyIf c n).ctx = s.ctx := by
  cases c <;> rfl
@[simp] theorem State.notifyIf_undo (s : State) (c : Bool) (n : Notice) : (s.notifyIf c n).undo = s.undo := by
  cases c <;> rfl
@[simp] theorem State.notifyIf_emittedUp (s : State) (c : Bool) (n : Notice) : (s.notifyIf c n).emittedUp = s.emittedUp := by
  cases c <;> rfl
@[simp] theorem State.notifyIf_emittedDn (s : State) (c : Bool) (n : Notice) : (s.notifyIf c n).emittedDn = s.emittedDn := by
  cases c <;> rfl
@[simp] theorem State.notifyIf_pendingWake (s : State) (c : Bool) (n : Notice) : (s.notifyIf c n).pendingWake = s.pendingWake := by
  cases c <;> rfl
@[simp] theorem State.notifyIf_pendingRequest (s : State) (c : Bool) (n : Notice) : (s.notifyIf c n).pendingRequest = s.pendingRequest := by
  cases c <;> rfl
@[simp] theorem State.notifyIf_requestStale (s : State) (c : Bool) (n : Notice) : (s.notifyIf c n).requestStale = s.requestStale := by
  cases c <;> rfl
@[simp] theorem State.notifyIf_lastAbort (s : State) (c : Bool) (n : Notice) : (s.notifyIf c n).lastAbort = s.lastAbort := by
  cases c <;> rfl
@[simp] theorem State.notifyIf_wakeCause (s : State) (c : Bool) (n : Notice) : (s.notifyIf c n).wakeCause = s.wakeCause := by
  cases c <;> rfl
@[simp] theorem State.notifyIf_trip (s : State) (c : Bool) (n : Notice) : (s.notifyIf c n).trip = s.trip := by
  cases c <;> rfl
@[simp] theorem State.notifyIf_domains (s : State) (c : Bool) (n : Notice) : (s.notifyIf c n).domains = s.domains := by
  cases c <;> rfl
@[simp] theorem State.notifyIf_staged (s : State) (c : Bool) (n : Notice) : (s.notifyIf c n).staged = s.staged := by
  cases c <;> rfl
@[simp] theorem State.notifyIf_active (s : State) (c : Bool) (n : Notice) : (s.notifyIf c n).active = s.active := by
  cases c <;> rfl
@[simp] theorem State.notifyIf_applyPending (s : State) (c : Bool) (n : Notice) : (s.notifyIf c n).applyPending = s.applyPending := by
  cases c <;> rfl
@[simp] theorem State.notifyIf_applyStatus (s : State) (c : Bool) (n : Notice) : (s.notifyIf c n).applyStatus = s.applyStatus := by
  cases c <;> rfl
@[simp] theorem State.notifyIf_wakes (s : State) (c : Bool) (n : Notice) : (s.notifyIf c n).wakes = s.wakes := by
  cases c <;> rfl
@[simp] theorem State.notifyIf_captures (s : State) (c : Bool) (n : Notice) : (s.notifyIf c n).captures = s.captures := by
  cases c <;> rfl
@[simp] theorem State.notifyIf_wakeA (s : State) (c : Bool) (n : Notice) : (s.notifyIf c n).wakeA = s.wakeA := by
  cases c <;> rfl
@[simp] theorem State.notifyIf_wakeB (s : State) (c : Bool) (n : Notice) : (s.notifyIf c n).wakeB = s.wakeB := by
  cases c <;> rfl
@[simp] theorem State.notifyIf_button (s : State) (c : Bool) (n : Notice) : (s.notifyIf c n).button = s.button := by
  cases c <;> rfl
@[simp] theorem State.notifyIf_indicator (s : State) (c : Bool) (n : Notice) : (s.notifyIf c n).indicator = s.indicator := by
  cases c <;> rfl
@[simp] theorem State.notifyIf_signals (s : State) (c : Bool) (n : Notice) : (s.notifyIf c n).signals = s.signals := by
  cases c <;> rfl
@[simp] theorem State.notifyIf_agents (s : State) (c : Bool) (n : Notice) : (s.notifyIf c n).agents = s.agents := by
  cases c <;> rfl
@[simp] theorem State.notifyIf_up (s : State) (c : Bool) (n : Notice) : (s.notifyIf c n).up = s.up := by
  cases c <;> rfl
@[simp] theorem State.notifyIf_dn (s : State) (c : Bool) (n : Notice) : (s.notifyIf c n).dn = s.dn := by
  cases c <;> rfl
@[simp] theorem State.notifyIf_queues (s : State) (c : Bool) (n : Notice) : (s.notifyIf c n).queues = s.queues := by
  cases c <;> rfl
@[simp] theorem State.notifyIf_rpol (s : State) (c : Bool) (n : Notice) : (s.notifyIf c n).rpol = s.rpol := by
  cases c <;> rfl
@[simp] theorem State.notifyIf_pending (s : State) (c : Bool) (n : Notice) : (s.notifyIf c n).pending = s.pending := by
  cases c <;> rfl

/-! ## changeDom -/

@[simp] theorem State.changeDom_fine (s : State) (d : DomainId) (r : DomainRuntime) : (s.changeDom d r).fine = s.fine := rfl
@[simp] theorem State.changeDom_milli (s : State) (d : DomainId) (r : DomainRuntime) : (s.changeDom d r).milli = s.milli := rfl
@[simp] theorem State.changeDom_platform (s : State) (d : DomainId) (r : DomainRuntime) : (s.changeDom d r).platform = s.platform := rfl
@[simp] theorem State.changeDom_requested (s : State) (d : DomainId) (r : DomainRuntime) : (s.changeDom d r).requested = s.requested := rfl
@[simp] theorem State.changeDom_ctx (s : State) (d : DomainId) (r : DomainRuntime) : (s.changeDom d r).ctx = s.ctx := rfl
@[simp] theorem State.changeDom_undo (s : State) (d : DomainId) (r : DomainRuntime) : (s.changeDom d r).undo = s.undo := rfl
@[simp] theorem State.changeDom_emittedUp (s : State) (d : DomainId) (r : DomainRuntime) : (s.changeDom d r).emittedUp = s.emittedUp := rfl
@[simp] theorem State.changeDom_emittedDn (s : State) (d : DomainId) (r : DomainRuntime) : (s.changeDom d r).emittedDn = s.emittedDn := rfl
@[simp] theorem State.changeDom_pendingWake (s : State) (d : DomainId) (r : DomainRuntime) : (s.changeDom d r).pendingWake = s.pendingWake := rfl
@[simp] theorem State.changeDom_pendingRequest (s : State) (d : DomainId) (r : DomainRuntime) : (s.changeDom d r).pendingRequest = s.pendingRequest := rfl
@[simp] theorem State.changeDom_requestStale (s : State) (d : DomainId) (r : DomainRuntime) : (s.changeDom d r).requestStale = s.requestStale := rfl
@[simp] theorem State.changeDom_lastAbort (s : State) (d : DomainId) (r : DomainRuntime) : (s.changeDom d r).lastAbort = s.lastAbort := rfl
@[simp] theorem State.changeDom_wakeCause (s : State) (d : DomainId) (r : DomainRuntime) : (s.changeDom d r).wakeCause = s.wakeCause := rfl
@[simp] theorem State.changeDom_trip (s : State) (d : DomainId) (r : DomainRuntime) : (s.changeDom d r).trip = s.trip := rfl
@[simp] theorem State.changeDom_staged (s : State) (d : DomainId) (r : DomainRuntime) : (s.changeDom d r).staged = s.staged := rfl
@[simp] theorem State.changeDom_active (s : State) (d : DomainId) (r : DomainRuntime) : (s.changeDom d r).active = s.active := rfl
@[simp] theorem State.changeDom_applyPending (s : State) (d : DomainId) (r : DomainRuntime) : (s.changeDom d r).applyPending = s.applyPending := rfl
@[simp] theorem State.changeDom_applyStatus (s : State) (d : DomainId) (r : DomainRuntime) : (s.changeDom d r).applyStatus = s.applyStatus := rfl
@[simp] theorem State.changeDom_wakes (s : State) (d : DomainId) (r : DomainRuntime) : (s.changeDom d r).wakes = s.wakes := rfl
@[simp] theorem State.changeDom_captures (s : State) (d : DomainId) (r : DomainRuntime) : (s.changeDom d r).captures = s.captures := rfl
@[simp] theorem State.changeDom_wakeA (s : State) (d : DomainId) (r : DomainRuntime) : (s.changeDom d r).wakeA = s.wakeA := rfl
@[simp] theorem State.changeDom_wakeB (s : State) (d : DomainId) (r : DomainRuntime) : (s.changeDom d r).wakeB = s.wakeB := rfl
@[simp] theorem State.changeDom_button (s : State) (d : DomainId) (r : DomainRuntime) : (s.changeDom d r).button = s.button := rfl
@[simp] theorem State.changeDom_indicator (s : State) (d : DomainId) (r : DomainRuntime) : (s.changeDom d r).indicator = s.indicator := rfl
@[simp] theorem State.changeDom_signals (s : State) (d : DomainId) (r : DomainRuntime) : (s.changeDom d r).signals = s.signals := rfl
@[simp] theorem State.changeDom_agents (s : State) (d : DomainId) (r : DomainRuntime) : (s.changeDom d r).agents = s.agents := rfl
@[simp] theorem State.changeDom_up (s : State) (d : DomainId) (r : DomainRuntime) : (s.changeDom d r).up = s.up := rfl
@[simp] theorem State.changeDom_dn (s : State) (d : DomainId) (r : DomainRuntime) : (s.changeDom d r).dn = s.dn := rfl
@[simp] theorem State.changeDom_queues (s : State) (d : DomainId) (r : DomainRuntime) : (s.changeDom d r).queues = s.queues := rfl
@[simp] theorem State.changeDom_rpol (s : State) (d : DomainId) (r : DomainRuntime) : (s.changeDom d r).rpol = s.rpol := rfl
@[simp] theorem State.changeDom_pending (s : State) (d : DomainId) (r : DomainRuntime) : (s.changeDom d r).pending = s.pending := rfl

/-! ## setQueue -/

@[simp] theorem State.setQueue_fine (s : State) (i : QueueId) (l : List Frame) : (s.setQueue i l).fine = s.fine := rfl
@[simp] theorem State.setQueue_milli (s : State) (i : QueueId) (l : List Frame) : (s.setQueue i l).milli = s.milli := rfl
@[simp] theorem State.setQueue_platform (s : State) (i : QueueId) (l : List Frame) : (s.setQueue i l).platform = s.platform := rfl
@[simp] theorem State.setQueue_requested (s : State) (i : QueueId) (l : List Frame) : (s.setQueue i l).requested = s.requested := rfl
@[simp] theorem State.setQueue_ctx (s : State) (i : QueueId) (l : List Frame) : (s.setQueue i l).ctx = s.ctx := rfl
@[simp] theorem State.setQueue_undo (s : State) (i : QueueId) (l : List Frame) : (s.setQueue i l).undo = s.undo := rfl
@[simp] theorem State.setQueue_emittedUp (s : State) (i : QueueId) (l : List Frame) : (s.setQueue i l).emittedUp = s.emittedUp := rfl
@[simp] theorem State.setQueue_emittedDn (s : State) (i : QueueId) (l : List Frame) : (s.setQueue i l).emittedDn = s.emittedDn := rfl
@[simp] theorem State.setQueue_pendingWake (s : State) (i : QueueId) (l : List Frame) : (s.setQueue i l).pendingWake = s.pendingWake := rfl
@[simp] theorem State.setQueue_pendingRequest (s : State) (i : QueueId) (l : List Frame) : (s.setQueue i l).pendingRequest = s.pendingRequest := rfl
@[simp] theorem State.setQueue_requestStale (s : State) (i : QueueId) (l : List Frame) : (s.setQueue i l).requestStale = s.requestStale := rfl
@[simp] theorem State.setQueue_lastAbort (s : State) (i : QueueId) (l : List Frame) : (s.setQueue i l).lastAbort = s.lastAbort := rfl
@[simp] theorem State.setQueue_wakeCause (s : State) (i : QueueId) (l : List Frame) : (s.setQueue i l).wakeCause = s.wakeCause := rfl
@[simp] theorem State.setQueue_trip (s : State) (i : QueueId) (l : List Frame) : (s.setQueue i l).trip = s.trip := rfl
@[simp] theorem State.setQueue_domains (s : State) (i : QueueId) (l : List Frame) : (s.setQueue i l).domains = s.domains := rfl
@[simp] theorem State.setQueue_staged (s : State) (i : QueueId) (l : List Frame) : (s.setQueue i l).staged = s.staged := rfl
@[simp] theorem State.setQueue_active (s : State) (i : QueueId) (l : List Frame) : (s.setQueue i l).active = s.active := rfl
@[simp] theorem State.setQueue_applyPending (s : State) (i : QueueId) (l : List Frame) : (s.setQueue i l).applyPending = s.applyPending := rfl
@[simp] theorem State.setQueue_applyStatus (s : State) (i : QueueId) (l : List Frame) : (s.setQueue i l).applyStatus = s.applyStatus := rfl
@[simp] theorem State.setQueue_wakes (s : State) (i : QueueId) (l : List Frame) : (s.setQueue i l).wakes = s.wakes := rfl
@[simp] theorem State.setQueue_captures (s : State) (i : QueueId) (l : List Frame) : (s.setQueue i l).captures = s.captures := rfl
@[simp] theorem State.setQueue_wakeA (s : State) (i : QueueId) (l : List Frame) : (s.setQueue i l).wakeA = s.wakeA := rfl
@[simp] theorem State.setQueue_wakeB (s : State) (i : QueueId) (l : List Frame) : (s.setQueue i l).wakeB = s.wakeB := rfl
@[simp] theorem State.setQueue_button (s : State) (i : QueueId) (l : List Frame) : (s.setQueue i l).button = s.button := rfl
@[simp] theorem State.setQueue_indicator (s : State) (i : QueueId) (l : List Frame) : (s.setQueue i l).indicator = s.indicator := rfl
@[simp] theorem State.setQueue_signals (s : State) (i : QueueId) (l : List Frame) : (s.setQueue i l).signals = s.signals := rfl
@[simp] theorem State.setQueue_agents (s : State) (i : QueueId) (l : List Frame) : (s.setQueue i l).agents = s.agents := rfl
@[simp] theorem State.setQueue_up (s : State) (i : QueueId) (l : List Frame) : (s.setQueue i l).up = s.up := rfl
@[simp] theorem State.setQueue_dn (s : State) (i : QueueId) (l : List Frame) : (s.setQueue i l).dn = s.dn := rfl
@[simp] theorem State.setQueue_notices (s : State) (i : QueueId) (l : List Frame) : (s.setQueue i l).notices = s.notices := rfl
@[simp] theorem State.setQueue_rpol (s : State) (i : QueueId) (l : List Frame) : (s.setQueue i l).rpol = s.rpol := rfl
@[simp] theorem State.setQueue_pending (s : State) (i : QueueId) (l : List Frame) : (s.setQueue i l).pending = s.pending := rfl

/-! ## enqueue -/

@[simp] theorem State.enqueue_fine (s : State) (i : QueueId) (f : Frame) : (s.enqueue i f).fine = s.fine := by
  unfold State.enqueue; split <;> rfl
@[simp] theorem State.enqueue_milli (s : State) (i : QueueId) (f : Frame) : (s.enqueue i f).milli = s.milli := by
  unfold State.enqueue; split <;> rfl
@[simp] theorem State.enqueue_platform (s : State) (i : QueueId) (f : Frame) : (s.enqueue i f).platform = s.platform := by
  unfold State.enqueue; split <;> rfl
@[simp] theorem State.enqueue_requested (s : State) (i : QueueId) (f : Frame) : (s.enqueue i f).requested = s.requested := by
  unfold State.enqueue; split <;> rfl
@[simp] theorem State.enqueue_ctx (s : State) (i : QueueId) (f : Frame) : (s.enqueue i f).ctx = s.ctx := by
  unfold State.enqueue; split <;> rfl
@[simp] theorem State.enqueue_undo (s : State) (i : QueueId) (f : Frame) : (s.enqueue i f).undo = s.undo := by
  unfold State.enqueue; split <;> rfl
@[simp] theorem State.enqueue_emittedUp (s : State) (i : QueueId) (f : Frame) : (s.enqueue i f).emittedUp = s.emittedUp := by
  unfold State.enqueue; split <;> rfl
@[simp] theorem State.enqueue_emittedDn (s : State) (i : QueueId) (f : Frame) : (s.enqueue i f).emittedDn = s.emittedDn := by
  unfold State.enqueue; split <;> rfl
@[simp] theorem State.enqueue_pendingWake (s : State) (i : QueueId) (f : Frame) : (s.enqueue i f).pendingWake = s.pendingWake := by
  unfold State.enqueue; split <;> rfl
@[simp] theorem State.enqueue_pendingRequest (s : State) (i : QueueId) (f : Frame) : (s.enqueue i f).pendingRequest = s.pendingRequest := by
  unfold State.enqueue; split <;> rfl
@[simp] theorem State.enqueue_requestStale (s : State) (i : QueueId) (f : Frame) : (s.enqueue i f).requestStale = s.requestStale := by
  unfold State.enqueue; split <;> rfl
@[simp] theorem State.enqueue_lastAbort (s : State) (i : QueueId) (f : Frame) : (s.enqueue i f).lastAbort = s.lastAbort := by
  unfold State.enqueue; split <;> rfl
@[simp] theorem State.enqueue_wakeCause (s : State) (i : QueueId) (f : Frame) : (s.enqueue i f).wakeCause = s.wakeCause := by
  unfold State.enqueue; split <;> rfl
@[simp] theorem State.enqueue_trip (s : State) (i : QueueId) (f : Frame) : (s.enqueue i f).trip = s.trip := by
  unfold State.enqueue; split <;> rfl
@[simp] theorem State.enqueue_domains (s : State) (i : QueueId) (f : Frame) : (s.enqueue i f).domains = s.domains := by
  unfold State.enqueue; split <;> rfl
@[simp] theorem State.enqueue_staged (s : State) (i : QueueId) (f : Frame) : (s.enqueue i f).staged = s.staged := by
  unfold State.enqueue; split <;> rfl
@[simp] theorem State.enqueue_active (s : State) (i : QueueId) (f : Frame) : (s.enqueue i f).active = s.active := by
  unfold State.enqueue; split <;> rfl
@[simp] theorem State.enqueue_applyPending (s : State) (i : QueueId) (f : Frame) : (s.enqueue i f).applyPending = s.applyPending := by
  unfold State.enqueue; split <;> rfl
@[simp] theorem State.enqueue_applyStatus (s : State) (i : QueueId) (f : Frame) : (s.enqueue i f).applyStatus = s.applyStatus := by
  unfold State.enqueue; split <;> rfl
@[simp] theorem State.enqueue_wakes (s : State) (i : QueueId) (f : Frame) : (s.enqueue i f).wakes = s.wakes := by
  unfold State.enqueue; split <;> rfl
@[simp] theorem State.enqueue_captures (s : State) (i : QueueId) (f : Frame) : (s.enqueue i f).captures = s.captures := by
  unfold State.enqueue; split <;> rfl
@[simp] theorem State.enqueue_wakeA (s : State) (i : QueueId) (f : Frame) : (s.enqueue i f).wakeA = s.wakeA := by
  unfold State.enqueue; split <;> rfl
@[simp] theorem State.enqueue_wakeB (s : State) (i : QueueId) (f : Frame) : (s.enqueue i f).wakeB = s.wakeB := by
  unfold State.enqueue; split <;> rfl
@[simp] theorem State.enqueue_button (s : State) (i : QueueId) (f : Frame) : (s.enqueue i f).button = s.button := by
  unfold State.enqueue; split <;> rfl
@[simp] theorem State.enqueue_indicator (s : State) (i : QueueId) (f : Frame) : (s.enqueue i f).indicator = s.indicator := by
  unfold State.enqueue; split <;> rfl
@[simp] theorem State.enqueue_signals (s : State) (i : QueueId) (f : Frame) : (s.enqueue i f).signals = s.signals := by
  unfold State.enqueue; split <;> rfl
@[simp] theorem State.enqueue_agents (s : State) (i : QueueId) (f : Frame) : (s.enqueue i f).agents = s.agents := by
  unfold State.enqueue; split <;> rfl
@[simp] theorem State.enqueue_up (s : State) (i : QueueId) (f : Frame) : (s.enqueue i f).up = s.up := by
  unfold State.enqueue; split <;> rfl
@[simp] theorem State.enqueue_dn (s : State) (i : QueueId) (f : Frame) : (s.enqueue i f).dn = s.dn := by
  unfold State.enqueue; split <;> rfl
@[simp] theorem State.enqueue_notices (s : State) (i : QueueId) (f : Frame) : (s.enqueue i f).notices = s.notices := by
  unfold State.enqueue; split <;> rfl
@[simp] theorem State.enqueue_rpol (s : State) (i : QueueId) (f : Frame) : (s.enqueue i f).rpol = s.rpol := by
  unfold State.enqueue; split <;> rfl
@[simp] theorem State.enqueue_pending (s : State) (i : QueueId) (f : Frame) : (s.enqueue i f).pending = s.pending := by
  unfold State.enqueue; split <;> rfl

/-! ## setPort -/

@[simp] theorem State.setPort_fine (s : State) (p : Port) (x : PortState) : (s.setPort p x).fine = s.fine := by
  cases p <;> rfl
@[simp] theorem State.setPort_milli (s : State) (p : Port) (x : PortState) : (s.setPort p x).milli = s.milli := by
  cases p <;> rfl
@[simp] theorem State.setPort_platform (s : State) (p : Port) (x : PortState) : (s.setPort p x).platform = s.platform := by
  cases p <;> rfl
@[simp] theorem State.setPort_requested (s : State) (p : Port) (x : PortState) : (s.setPort p x).requested = s.requested := by
  cases p <;> rfl
@[simp] theorem State.setPort_ctx (s : State) (p : Port) (x : PortState) : (s.setPort p x).ctx = s.ctx := by
  cases p <;> rfl
@[simp] theorem State.setPort_undo (s : State) (p : Port) (x : PortState) : (s.setPort p x).undo = s.undo := by
  cases p <;> rfl
@[simp] theorem State.setPort_emittedUp (s : State) (p : Port) (x : PortState) : (s.setPort p x).emittedUp = s.emittedUp := by
  cases p <;> rfl
@[simp] theorem State.setPort_emittedDn (s : State) (p : Port) (x : PortState) : (s.setPort p x).emittedDn = s.emittedDn := by
  cases p <;> rfl
@[simp] theorem State.setPort_pendingWake (s : State) (p : Port) (x : PortState) : (s.setPort p x).pendingWake = s.pendingWake := by
  cases p <;> rfl
@[simp] theorem State.setPort_pendingRequest (s : State) (p : Port) (x : PortState) : (s.setPort p x).pendingRequest = s.pendingRequest := by
  cases p <;> rfl
@[simp] theorem State.setPort_requestStale (s : State) (p : Port) (x : PortState) : (s.setPort p x).requestStale = s.requestStale := by
  cases p <;> rfl
@[simp] theorem State.setPort_lastAbort (s : State) (p : Port) (x : PortState) : (s.setPort p x).lastAbort = s.lastAbort := by
  cases p <;> rfl
@[simp] theorem State.setPort_wakeCause (s : State) (p : Port) (x : PortState) : (s.setPort p x).wakeCause = s.wakeCause := by
  cases p <;> rfl
@[simp] theorem State.setPort_trip (s : State) (p : Port) (x : PortState) : (s.setPort p x).trip = s.trip := by
  cases p <;> rfl
@[simp] theorem State.setPort_domains (s : State) (p : Port) (x : PortState) : (s.setPort p x).domains = s.domains := by
  cases p <;> rfl
@[simp] theorem State.setPort_staged (s : State) (p : Port) (x : PortState) : (s.setPort p x).staged = s.staged := by
  cases p <;> rfl
@[simp] theorem State.setPort_active (s : State) (p : Port) (x : PortState) : (s.setPort p x).active = s.active := by
  cases p <;> rfl
@[simp] theorem State.setPort_applyPending (s : State) (p : Port) (x : PortState) : (s.setPort p x).applyPending = s.applyPending := by
  cases p <;> rfl
@[simp] theorem State.setPort_applyStatus (s : State) (p : Port) (x : PortState) : (s.setPort p x).applyStatus = s.applyStatus := by
  cases p <;> rfl
@[simp] theorem State.setPort_wakes (s : State) (p : Port) (x : PortState) : (s.setPort p x).wakes = s.wakes := by
  cases p <;> rfl
@[simp] theorem State.setPort_captures (s : State) (p : Port) (x : PortState) : (s.setPort p x).captures = s.captures := by
  cases p <;> rfl
@[simp] theorem State.setPort_wakeA (s : State) (p : Port) (x : PortState) : (s.setPort p x).wakeA = s.wakeA := by
  cases p <;> rfl
@[simp] theorem State.setPort_wakeB (s : State) (p : Port) (x : PortState) : (s.setPort p x).wakeB = s.wakeB := by
  cases p <;> rfl
@[simp] theorem State.setPort_button (s : State) (p : Port) (x : PortState) : (s.setPort p x).button = s.button := by
  cases p <;> rfl
@[simp] theorem State.setPort_indicator (s : State) (p : Port) (x : PortState) : (s.setPort p x).indicator = s.indicator := by
  cases p <;> rfl
@[simp] theorem State.setPort_signals (s : State) (p : Port) (x : PortState) : (s.setPort p x).signals = s.signals := by
  cases p <;> rfl
@[simp] theorem State.setPort_agents (s : State) (p : Port) (x : PortState) : (s.setPort p x).agents = s.agents := by
  cases p <;> rfl
@[simp] theorem State.setPort_queues (s : State) (p : Port) (x : PortState) : (s.setPort p x).queues = s.queues := by
  cases p <;> rfl
@[simp] theorem State.setPort_notices (s : State) (p : Port) (x : PortState) : (s.setPort p x).notices = s.notices := by
  cases p <;> rfl
@[simp] theorem State.setPort_rpol (s : State) (p : Port) (x : PortState) : (s.setPort p x).rpol = s.rpol := by
  cases p <;> rfl
@[simp] theorem State.setPort_pending (s : State) (p : Port) (x : PortState) : (s.setPort p x).pending = s.pending := by
  cases p <;> rfl

/-! ## linkError -/

@[simp] theorem State.linkError_fine (s : State) (p : Port) : (s.linkError p).fine = s.fine := by
  cases p <;> rfl
@[simp] theorem State.linkError_milli (s : State) (p : Port) : (s.linkError p).milli = s.milli := by
  cases p <;> rfl
@[simp] theorem State.linkError_platform (s : State) (p : Port) : (s.linkError p).platform = s.platform := by
  cases p <;> rfl
@[simp] theorem State.linkError_requested (s : State) (p : Port) : (s.linkError p).requested = s.requested := by
  cases p <;> rfl
@[simp] theorem State.linkError_ctx (s : State) (p : Port) : (s.linkError p).ctx = s.ctx := by
  cases p <;> rfl
@[simp] theorem State.linkError_undo (s : State) (p : Port) : (s.linkError p).undo = s.undo := by
  cases p <;> rfl
@[simp] theorem State.linkError_emittedUp (s : State) (p : Port) : (s.linkError p).emittedUp = s.emittedUp := by
  cases p <;> rfl
@[simp] theorem State.linkError_emittedDn (s : State) (p : Port) : (s.linkError p).emittedDn = s.emittedDn := by
  cases p <;> rfl
@[simp] theorem State.linkError_pendingWake (s : State) (p : Port) : (s.linkError p).pendingWake = s.pendingWake := by
  cases p <;> rfl
@[simp] theorem State.linkError_pendingRequest (s : State) (p : Port) : (s.linkError p).pendingRequest = s.pendingRequest := by
  cases p <;> rfl
@[simp] theorem State.linkError_requestStale (s : State) (p : Port) : (s.linkError p).requestStale = s.requestStale := by
  cases p <;> rfl
@[simp] theorem State.linkError_lastAbort (s : State) (p : Port) : (s.linkError p).lastAbort = s.lastAbort := by
  cases p <;> rfl
@[simp] theorem State.linkError_wakeCause (s : State) (p : Port) : (s.linkError p).wakeCause = s.wakeCause := by
  cases p <;> rfl
@[simp] theorem State.linkError_trip (s : State) (p : Port) : (s.linkError p).trip = s.trip := by
  cases p <;> rfl
@[simp] theorem State.linkError_domains (s : State) (p : Port) : (s.linkError p).domains = s.domains := by
  cases p <;> rfl
@[simp] theorem State.linkError_staged (s : State) (p : Port) : (s.linkError p).staged = s.staged := by
  cases p <;> rfl
@[simp] theorem State.linkError_active (s : State) (p : Port) : (s.linkError p).active = s.active := by
  cases p <;> rfl
@[simp] theorem State.linkError_applyPending (s : State) (p : Port) : (s.linkError p).applyPending = s.applyPending := by
  cases p <;> rfl
@[simp] theorem State.linkError_applyStatus (s : State) (p : Port) : (s.linkError p).applyStatus = s.applyStatus := by
  cases p <;> rfl
@[simp] theorem State.linkError_wakes (s : State) (p : Port) : (s.linkError p).wakes = s.wakes := by
  cases p <;> rfl
@[simp] theorem State.linkError_captures (s : State) (p : Port) : (s.linkError p).captures = s.captures := by
  cases p <;> rfl
@[simp] theorem State.linkError_wakeA (s : State) (p : Port) : (s.linkError p).wakeA = s.wakeA := by
  cases p <;> rfl
@[simp] theorem State.linkError_wakeB (s : State) (p : Port) : (s.linkError p).wakeB = s.wakeB := by
  cases p <;> rfl
@[simp] theorem State.linkError_button (s : State) (p : Port) : (s.linkError p).button = s.button := by
  cases p <;> rfl
@[simp] theorem State.linkError_indicator (s : State) (p : Port) : (s.linkError p).indicator = s.indicator := by
  cases p <;> rfl
@[simp] theorem State.linkError_signals (s : State) (p : Port) : (s.linkError p).signals = s.signals := by
  cases p <;> rfl
@[simp] theorem State.linkError_agents (s : State) (p : Port) : (s.linkError p).agents = s.agents := by
  cases p <;> rfl
@[simp] theorem State.linkError_queues (s : State) (p : Port) : (s.linkError p).queues = s.queues := by
  cases p <;> rfl
@[simp] theorem State.linkError_rpol (s : State) (p : Port) : (s.linkError p).rpol = s.rpol := by
  cases p <;> rfl
@[simp] theorem State.linkError_pending (s : State) (p : Port) : (s.linkError p).pending = s.pending := by
  cases p <;> rfl

/-! ## discard -/

@[simp] theorem State.discard_fine (s : State) (p : Port) (n : Nat) : (s.discard p n).fine = s.fine := by
  cases p <;> rfl
@[simp] theorem State.discard_milli (s : State) (p : Port) (n : Nat) : (s.discard p n).milli = s.milli := by
  cases p <;> rfl
@[simp] theorem State.discard_platform (s : State) (p : Port) (n : Nat) : (s.discard p n).platform = s.platform := by
  cases p <;> rfl
@[simp] theorem State.discard_requested (s : State) (p : Port) (n : Nat) : (s.discard p n).requested = s.requested := by
  cases p <;> rfl
@[simp] theorem State.discard_ctx (s : State) (p : Port) (n : Nat) : (s.discard p n).ctx = s.ctx := by
  cases p <;> rfl
@[simp] theorem State.discard_undo (s : State) (p : Port) (n : Nat) : (s.discard p n).undo = s.undo := by
  cases p <;> rfl
@[simp] theorem State.discard_emittedUp (s : State) (p : Port) (n : Nat) : (s.discard p n).emittedUp = s.emittedUp := by
  cases p <;> rfl
@[simp] theorem State.discard_emittedDn (s : State) (p : Port) (n : Nat) : (s.discard p n).emittedDn = s.emittedDn := by
  cases p <;> rfl
@[simp] theorem State.discard_pendingWake (s : State) (p : Port) (n : Nat) : (s.discard p n).pendingWake = s.pendingWake := by
  cases p <;> rfl
@[simp] theorem State.discard_pendingRequest (s : State) (p : Port) (n : Nat) : (s.discard p n).pendingRequest = s.pendingRequest := by
  cases p <;> rfl
@[simp] theorem State.discard_requestStale (s : State) (p : Port) (n : Nat) : (s.discard p n).requestStale = s.requestStale := by
  cases p <;> rfl
@[simp] theorem State.discard_lastAbort (s : State) (p : Port) (n : Nat) : (s.discard p n).lastAbort = s.lastAbort := by
  cases p <;> rfl
@[simp] theorem State.discard_wakeCause (s : State) (p : Port) (n : Nat) : (s.discard p n).wakeCause = s.wakeCause := by
  cases p <;> rfl
@[simp] theorem State.discard_trip (s : State) (p : Port) (n : Nat) : (s.discard p n).trip = s.trip := by
  cases p <;> rfl
@[simp] theorem State.discard_domains (s : State) (p : Port) (n : Nat) : (s.discard p n).domains = s.domains := by
  cases p <;> rfl
@[simp] theorem State.discard_staged (s : State) (p : Port) (n : Nat) : (s.discard p n).staged = s.staged := by
  cases p <;> rfl
@[simp] theorem State.discard_active (s : State) (p : Port) (n : Nat) : (s.discard p n).active = s.active := by
  cases p <;> rfl
@[simp] theorem State.discard_applyPending (s : State) (p : Port) (n : Nat) : (s.discard p n).applyPending = s.applyPending := by
  cases p <;> rfl
@[simp] theorem State.discard_applyStatus (s : State) (p : Port) (n : Nat) : (s.discard p n).applyStatus = s.applyStatus := by
  cases p <;> rfl
@[simp] theorem State.discard_wakes (s : State) (p : Port) (n : Nat) : (s.discard p n).wakes = s.wakes := by
  cases p <;> rfl
@[simp] theorem State.discard_captures (s : State) (p : Port) (n : Nat) : (s.discard p n).captures = s.captures := by
  cases p <;> rfl
@[simp] theorem State.discard_wakeA (s : State) (p : Port) (n : Nat) : (s.discard p n).wakeA = s.wakeA := by
  cases p <;> rfl
@[simp] theorem State.discard_wakeB (s : State) (p : Port) (n : Nat) : (s.discard p n).wakeB = s.wakeB := by
  cases p <;> rfl
@[simp] theorem State.discard_button (s : State) (p : Port) (n : Nat) : (s.discard p n).button = s.button := by
  cases p <;> rfl
@[simp] theorem State.discard_indicator (s : State) (p : Port) (n : Nat) : (s.discard p n).indicator = s.indicator := by
  cases p <;> rfl
@[simp] theorem State.discard_signals (s : State) (p : Port) (n : Nat) : (s.discard p n).signals = s.signals := by
  cases p <;> rfl
@[simp] theorem State.discard_agents (s : State) (p : Port) (n : Nat) : (s.discard p n).agents = s.agents := by
  cases p <;> rfl
@[simp] theorem State.discard_queues (s : State) (p : Port) (n : Nat) : (s.discard p n).queues = s.queues := by
  cases p <;> rfl
@[simp] theorem State.discard_rpol (s : State) (p : Port) (n : Nat) : (s.discard p n).rpol = s.rpol := by
  cases p <;> rfl
@[simp] theorem State.discard_pending (s : State) (p : Port) (n : Nat) : (s.discard p n).pending = s.pending := by
  cases p <;> rfl

/-! ## setEmitted -/

@[simp] theorem State.setEmitted_fine (s : State) (p : Port) (sig : Byte) (l : Level) : (s.setEmitted p sig l).fine = s.fine := by
  cases p <;> rfl
@[simp] theorem State.setEmitted_milli (s : State) (p : Port) (sig : Byte) (l : Level) : (s.setEmitted p sig l).milli = s.milli := by
  cases p <;> rfl
@[simp] theorem State.setEmitted_platform (s : State) (p : Port) (sig : Byte) (l : Level) : (s.setEmitted p sig l).platform = s.platform := by
  cases p <;> rfl
@[simp] theorem State.setEmitted_requested (s : State) (p : Port) (sig : Byte) (l : Level) : (s.setEmitted p sig l).requested = s.requested := by
  cases p <;> rfl
@[simp] theorem State.setEmitted_ctx (s : State) (p : Port) (sig : Byte) (l : Level) : (s.setEmitted p sig l).ctx = s.ctx := by
  cases p <;> rfl
@[simp] theorem State.setEmitted_undo (s : State) (p : Port) (sig : Byte) (l : Level) : (s.setEmitted p sig l).undo = s.undo := by
  cases p <;> rfl
@[simp] theorem State.setEmitted_pendingWake (s : State) (p : Port) (sig : Byte) (l : Level) : (s.setEmitted p sig l).pendingWake = s.pendingWake := by
  cases p <;> rfl
@[simp] theorem State.setEmitted_pendingRequest (s : State) (p : Port) (sig : Byte) (l : Level) : (s.setEmitted p sig l).pendingRequest = s.pendingRequest := by
  cases p <;> rfl
@[simp] theorem State.setEmitted_requestStale (s : State) (p : Port) (sig : Byte) (l : Level) : (s.setEmitted p sig l).requestStale = s.requestStale := by
  cases p <;> rfl
@[simp] theorem State.setEmitted_lastAbort (s : State) (p : Port) (sig : Byte) (l : Level) : (s.setEmitted p sig l).lastAbort = s.lastAbort := by
  cases p <;> rfl
@[simp] theorem State.setEmitted_wakeCause (s : State) (p : Port) (sig : Byte) (l : Level) : (s.setEmitted p sig l).wakeCause = s.wakeCause := by
  cases p <;> rfl
@[simp] theorem State.setEmitted_trip (s : State) (p : Port) (sig : Byte) (l : Level) : (s.setEmitted p sig l).trip = s.trip := by
  cases p <;> rfl
@[simp] theorem State.setEmitted_domains (s : State) (p : Port) (sig : Byte) (l : Level) : (s.setEmitted p sig l).domains = s.domains := by
  cases p <;> rfl
@[simp] theorem State.setEmitted_staged (s : State) (p : Port) (sig : Byte) (l : Level) : (s.setEmitted p sig l).staged = s.staged := by
  cases p <;> rfl
@[simp] theorem State.setEmitted_active (s : State) (p : Port) (sig : Byte) (l : Level) : (s.setEmitted p sig l).active = s.active := by
  cases p <;> rfl
@[simp] theorem State.setEmitted_applyPending (s : State) (p : Port) (sig : Byte) (l : Level) : (s.setEmitted p sig l).applyPending = s.applyPending := by
  cases p <;> rfl
@[simp] theorem State.setEmitted_applyStatus (s : State) (p : Port) (sig : Byte) (l : Level) : (s.setEmitted p sig l).applyStatus = s.applyStatus := by
  cases p <;> rfl
@[simp] theorem State.setEmitted_wakes (s : State) (p : Port) (sig : Byte) (l : Level) : (s.setEmitted p sig l).wakes = s.wakes := by
  cases p <;> rfl
@[simp] theorem State.setEmitted_captures (s : State) (p : Port) (sig : Byte) (l : Level) : (s.setEmitted p sig l).captures = s.captures := by
  cases p <;> rfl
@[simp] theorem State.setEmitted_wakeA (s : State) (p : Port) (sig : Byte) (l : Level) : (s.setEmitted p sig l).wakeA = s.wakeA := by
  cases p <;> rfl
@[simp] theorem State.setEmitted_wakeB (s : State) (p : Port) (sig : Byte) (l : Level) : (s.setEmitted p sig l).wakeB = s.wakeB := by
  cases p <;> rfl
@[simp] theorem State.setEmitted_button (s : State) (p : Port) (sig : Byte) (l : Level) : (s.setEmitted p sig l).button = s.button := by
  cases p <;> rfl
@[simp] theorem State.setEmitted_indicator (s : State) (p : Port) (sig : Byte) (l : Level) : (s.setEmitted p sig l).indicator = s.indicator := by
  cases p <;> rfl
@[simp] theorem State.setEmitted_signals (s : State) (p : Port) (sig : Byte) (l : Level) : (s.setEmitted p sig l).signals = s.signals := by
  cases p <;> rfl
@[simp] theorem State.setEmitted_agents (s : State) (p : Port) (sig : Byte) (l : Level) : (s.setEmitted p sig l).agents = s.agents := by
  cases p <;> rfl
@[simp] theorem State.setEmitted_up (s : State) (p : Port) (sig : Byte) (l : Level) : (s.setEmitted p sig l).up = s.up := by
  cases p <;> rfl
@[simp] theorem State.setEmitted_dn (s : State) (p : Port) (sig : Byte) (l : Level) : (s.setEmitted p sig l).dn = s.dn := by
  cases p <;> rfl
@[simp] theorem State.setEmitted_queues (s : State) (p : Port) (sig : Byte) (l : Level) : (s.setEmitted p sig l).queues = s.queues := by
  cases p <;> rfl
@[simp] theorem State.setEmitted_notices (s : State) (p : Port) (sig : Byte) (l : Level) : (s.setEmitted p sig l).notices = s.notices := by
  cases p <;> rfl
@[simp] theorem State.setEmitted_rpol (s : State) (p : Port) (sig : Byte) (l : Level) : (s.setEmitted p sig l).rpol = s.rpol := by
  cases p <;> rfl
@[simp] theorem State.setEmitted_pending (s : State) (p : Port) (sig : Byte) (l : Level) : (s.setEmitted p sig l).pending = s.pending := by
  cases p <;> rfl

/-! ## enterPlatform -/

@[simp] theorem State.enterPlatform_fine (s : State) (p : PlatformState) : (s.enterPlatform p).fine = s.fine := by
  unfold State.enterPlatform; split <;> rfl
@[simp] theorem State.enterPlatform_milli (s : State) (p : PlatformState) : (s.enterPlatform p).milli = s.milli := by
  unfold State.enterPlatform; split <;> rfl
@[simp] theorem State.enterPlatform_requested (s : State) (p : PlatformState) : (s.enterPlatform p).requested = s.requested := by
  unfold State.enterPlatform; split <;> rfl
@[simp] theorem State.enterPlatform_ctx (s : State) (p : PlatformState) : (s.enterPlatform p).ctx = s.ctx := by
  unfold State.enterPlatform; split <;> rfl
@[simp] theorem State.enterPlatform_undo (s : State) (p : PlatformState) : (s.enterPlatform p).undo = s.undo := by
  unfold State.enterPlatform; split <;> rfl
@[simp] theorem State.enterPlatform_emittedUp (s : State) (p : PlatformState) : (s.enterPlatform p).emittedUp = s.emittedUp := by
  unfold State.enterPlatform; split <;> rfl
@[simp] theorem State.enterPlatform_emittedDn (s : State) (p : PlatformState) : (s.enterPlatform p).emittedDn = s.emittedDn := by
  unfold State.enterPlatform; split <;> rfl
@[simp] theorem State.enterPlatform_pendingWake (s : State) (p : PlatformState) : (s.enterPlatform p).pendingWake = s.pendingWake := by
  unfold State.enterPlatform; split <;> rfl
@[simp] theorem State.enterPlatform_pendingRequest (s : State) (p : PlatformState) : (s.enterPlatform p).pendingRequest = s.pendingRequest := by
  unfold State.enterPlatform; split <;> rfl
@[simp] theorem State.enterPlatform_requestStale (s : State) (p : PlatformState) : (s.enterPlatform p).requestStale = s.requestStale := by
  unfold State.enterPlatform; split <;> rfl
@[simp] theorem State.enterPlatform_lastAbort (s : State) (p : PlatformState) : (s.enterPlatform p).lastAbort = s.lastAbort := by
  unfold State.enterPlatform; split <;> rfl
@[simp] theorem State.enterPlatform_wakeCause (s : State) (p : PlatformState) : (s.enterPlatform p).wakeCause = s.wakeCause := by
  unfold State.enterPlatform; split <;> rfl
@[simp] theorem State.enterPlatform_trip (s : State) (p : PlatformState) : (s.enterPlatform p).trip = s.trip := by
  unfold State.enterPlatform; split <;> rfl
@[simp] theorem State.enterPlatform_domains (s : State) (p : PlatformState) : (s.enterPlatform p).domains = s.domains := by
  unfold State.enterPlatform; split <;> rfl
@[simp] theorem State.enterPlatform_staged (s : State) (p : PlatformState) : (s.enterPlatform p).staged = s.staged := by
  unfold State.enterPlatform; split <;> rfl
@[simp] theorem State.enterPlatform_active (s : State) (p : PlatformState) : (s.enterPlatform p).active = s.active := by
  unfold State.enterPlatform; split <;> rfl
@[simp] theorem State.enterPlatform_applyPending (s : State) (p : PlatformState) : (s.enterPlatform p).applyPending = s.applyPending := by
  unfold State.enterPlatform; split <;> rfl
@[simp] theorem State.enterPlatform_applyStatus (s : State) (p : PlatformState) : (s.enterPlatform p).applyStatus = s.applyStatus := by
  unfold State.enterPlatform; split <;> rfl
@[simp] theorem State.enterPlatform_wakes (s : State) (p : PlatformState) : (s.enterPlatform p).wakes = s.wakes := by
  unfold State.enterPlatform; split <;> rfl
@[simp] theorem State.enterPlatform_captures (s : State) (p : PlatformState) : (s.enterPlatform p).captures = s.captures := by
  unfold State.enterPlatform; split <;> rfl
@[simp] theorem State.enterPlatform_wakeA (s : State) (p : PlatformState) : (s.enterPlatform p).wakeA = s.wakeA := by
  unfold State.enterPlatform; split <;> rfl
@[simp] theorem State.enterPlatform_wakeB (s : State) (p : PlatformState) : (s.enterPlatform p).wakeB = s.wakeB := by
  unfold State.enterPlatform; split <;> rfl
@[simp] theorem State.enterPlatform_button (s : State) (p : PlatformState) : (s.enterPlatform p).button = s.button := by
  unfold State.enterPlatform; split <;> rfl
@[simp] theorem State.enterPlatform_signals (s : State) (p : PlatformState) : (s.enterPlatform p).signals = s.signals := by
  unfold State.enterPlatform; split <;> rfl
@[simp] theorem State.enterPlatform_agents (s : State) (p : PlatformState) : (s.enterPlatform p).agents = s.agents := by
  unfold State.enterPlatform; split <;> rfl
@[simp] theorem State.enterPlatform_up (s : State) (p : PlatformState) : (s.enterPlatform p).up = s.up := by
  unfold State.enterPlatform; split <;> rfl
@[simp] theorem State.enterPlatform_dn (s : State) (p : PlatformState) : (s.enterPlatform p).dn = s.dn := by
  unfold State.enterPlatform; split <;> rfl
@[simp] theorem State.enterPlatform_queues (s : State) (p : PlatformState) : (s.enterPlatform p).queues = s.queues := by
  unfold State.enterPlatform; split <;> rfl
@[simp] theorem State.enterPlatform_rpol (s : State) (p : PlatformState) : (s.enterPlatform p).rpol = s.rpol := by
  unfold State.enterPlatform; split <;> rfl
@[simp] theorem State.enterPlatform_pending (s : State) (p : PlatformState) : (s.enterPlatform p).pending = s.pending := by
  unfold State.enterPlatform; split <;> rfl

/-! ## Reads after updates -/

@[simp] theorem State.dom_setDom_self (s : State) (d : DomainId) (r : DomainRuntime) : (s.setDom d r).dom d = r :=
  get_set_self _ _ _

theorem State.dom_setDom_of_ne (s : State) {d e : DomainId} (r : DomainRuntime) (h : e ≠ d) :
    (s.setDom d r).dom e = s.dom e :=
  get_set_of_ne _ _ h

@[simp] theorem State.cfg_setDom (s : State) (d e : DomainId) (r : DomainRuntime) : (s.setDom d r).cfg e = s.cfg e := rfl

@[simp] theorem State.cfg_notify (s : State) (n : Notice) (e : DomainId) : (s.notify n).cfg e = s.cfg e := rfl

@[simp] theorem State.dom_notify (s : State) (n : Notice) (e : DomainId) : (s.notify n).dom e = s.dom e := rfl

@[simp] theorem State.queue_notify (s : State) (n : Notice) (q : QueueId) : (s.notify n).queue q = s.queue q := rfl

@[simp] theorem State.port_notify (s : State) (n : Notice) (p : Port) : (s.notify n).port p = s.port p := by
  cases p <;> rfl

@[simp] theorem State.changeDom_dom_self (s : State) (d : DomainId) (r : DomainRuntime) :
    (s.changeDom d r).dom d = { r with change := true } := by
  simp [State.changeDom]

@[simp] theorem Queues.get_put_self (q : Queues) (i : QueueId) (l : List Frame) : (q.put i l).get i = l := by
  cases i <;> rfl

theorem Queues.get_put_of_ne (q : Queues) {i j : QueueId} (l : List Frame) (h : j ≠ i) :
    (q.put i l).get j = q.get j := by
  cases i <;> cases j <;> first | rfl | exact absurd rfl h

@[simp] theorem Queues.put_put (q : Queues) (i : QueueId) (l m : List Frame) : (q.put i l).put i m = q.put i m := by
  cases i <;> rfl

@[simp] theorem Queues.put_get (q : Queues) (i : QueueId) : q.put i (q.get i) = q := by
  cases i <;> rfl

@[simp] theorem State.queue_setQueue_self (s : State) (i : QueueId) (l : List Frame) : (s.setQueue i l).queue i = l :=
  Queues.get_put_self _ _ _

theorem State.queue_setQueue_of_ne (s : State) {i j : QueueId} (l : List Frame) (h : j ≠ i) :
    (s.setQueue i l).queue j = s.queue j :=
  Queues.get_put_of_ne _ _ h

@[simp] theorem State.port_setPort_self (s : State) (p : Port) (x : PortState) : (s.setPort p x).port p = x := by
  cases p <;> rfl

theorem State.port_setPort_of_ne (s : State) {p r : Port} (x : PortState) (h : r ≠ p) :
    (s.setPort p x).port r = s.port r := by
  cases p <;> cases r <;> first | rfl | exact absurd rfl h

@[simp] theorem State.setPort_port (s : State) (p : Port) : s.setPort p (s.port p) = s := by
  cases p <;> rfl

@[simp] theorem State.setPort_setPort (s : State) (p : Port) (x y : PortState) :
    (s.setPort p x).setPort p y = s.setPort p y := by
  cases p <;> rfl

@[simp] theorem State.port_setQueue (s : State) (i : QueueId) (l : List Frame) (p : Port) :
    (s.setQueue i l).port p = s.port p := by
  cases p <;> rfl

@[simp] theorem State.queue_setPort (s : State) (p : Port) (x : PortState) (i : QueueId) :
    (s.setPort p x).queue i = s.queue i := by
  cases p <;> rfl

@[simp] theorem State.queue_setDom (s : State) (d : DomainId) (r : DomainRuntime) (i : QueueId) :
    (s.setDom d r).queue i = s.queue i := rfl

@[simp] theorem State.emitted_setEmitted_self (s : State) (p : Port) (sig : Byte) (l : Level) :
    (s.setEmitted p sig l).emitted p sig = l := by
  cases p <;> exact get_set_self _ sig.toFin _

@[simp] theorem State.enterPlatform_platform (s : State) (p : PlatformState) : (s.enterPlatform p).platform = p := by
  unfold State.enterPlatform
  split
  · exact Eq.symm ‹_›
  · rfl

end Sys2Proof.Machine
end

