-- ==== Sys2Proof/Laws/Engine.lean ====
section
/-! SUPPORT. What one event does, without unfolding the engine: how a run of work is put together, how an event
ends, and how an invariant of each piece of work is an invariant of an event, a command and a step. -/

namespace Sys2Proof.Machine

open Sys2Proof

/-! ## Runs of work -/

@[simp] theorem quiesce_nil (n : Nat) (s : State) : quiesce n [] s = some s := by
  cases n <;> rfl

theorem quiesce_cons (n : Nat) (w : Work) (ws : List Work) (s : State) :
    quiesce (n + 1) (w :: ws) s = quiesce n ((micro w s).2 ++ ws) (micro w s).1 := rfl

/-- A run that ends within `n` pieces of work ends the same within more. -/
theorem quiesce_add {n : Nat} {ws : List Work} {s t : State} (h : quiesce n ws s = some t) (k : Nat) :
    quiesce (n + k) ws s = some t := by
  induction n generalizing ws s with
  | zero =>
    cases ws with
    | nil => simpa using h
    | cons w ws => simp [quiesce] at h
  | succ n ih =>
    cases ws with
    | nil => simpa using h
    | cons w ws =>
      rw [Nat.add_right_comm, quiesce_cons]
      exact ih h

theorem quiesce_of_le {n m : Nat} {ws : List Work} {s t : State} (h : quiesce n ws s = some t) (hm : n ≤ m) :
    quiesce m ws s = some t := by
  obtain ⟨k, rfl⟩ := Nat.exists_eq_add_of_le hm
  exact quiesce_add h k

/-- Two runs, one after the other. -/
theorem quiesce_append {n m : Nat} {ws vs : List Work} {s t u : State} (h : quiesce n ws s = some t)
    (k : quiesce m vs t = some u) : quiesce (n + m) (ws ++ vs) s = some u := by
  induction n generalizing ws s with
  | zero =>
    cases ws with
    | nil => simp only [quiesce_nil, Option.some.injEq] at h; subst h; simpa using k
    | cons w ws => simp [quiesce] at h
  | succ n ih =>
    cases ws with
    | nil =>
      simp only [quiesce_nil, Option.some.injEq] at h
      subst h
      rw [Nat.add_comm]
      exact quiesce_add k _
    | cons w ws =>
      rw [Nat.add_right_comm, List.cons_append, quiesce_cons, ← List.append_assoc]
      exact ih h

/-- One piece of work that sets off no more. -/
theorem quiesce_one {w : Work} {s t : State} (h : micro w s = (t, [])) : quiesce 1 [w] s = some t := by
  rw [quiesce_cons, h]
  simp

/-- What a piece of work and the work it sets off come to. -/
theorem quiesce_step {n : Nat} {w : Work} {s t u : State} {ws : List Work} (h : micro w s = (t, ws))
    (k : quiesce n ws t = some u) : quiesce (n + 1) [w] s = some u := by
  rw [quiesce_cons, h]
  simpa using k

/-- Every piece of work keeps `P` of the state and of the work still to do: so does a run. -/
theorem quiesce_keeps {P : List Work → State → Prop}
    (hP : ∀ w ws s, P (w :: ws) s → P ((micro w s).2 ++ ws) (micro w s).1)
    {n : Nat} {ws : List Work} {s t : State} (hs : P ws s) (h : quiesce n ws s = some t) : P [] t := by
  induction n generalizing ws s with
  | zero =>
    cases ws with
    | nil => simp only [quiesce_nil, Option.some.injEq] at h; exact h ▸ hs
    | cons w ws => simp [quiesce] at h
  | succ n ih =>
    cases ws with
    | nil => simp only [quiesce_nil, Option.some.injEq] at h; exact h ▸ hs
    | cons w ws => exact ih (hP w ws s hs) h

/-! ## Events -/

/-- An event answers a next state exactly where its work comes to an end. -/
theorem finish_eq_next {b : Before} {a : Act} {t : State} :
    finish b a = .next t ↔ quiesce Config.chainFuel (a.2 ++ [.settle b]) a.1 = some t := by
  unfold finish
  split <;> simp_all

/-- An event that ends in few pieces of work. -/
theorem finish_of_quiesce {n : Nat} {b : Before} {a : Act} {t : State}
    (h : quiesce n (a.2 ++ [.settle b]) a.1 = some t) (hn : n ≤ Config.chainFuel) : finish b a = .next t :=
  finish_eq_next.mpr (quiesce_of_le h hn)

theorem chooseFrame_head (s : State) (p r : Port) : ((s.chooseFrame p).port r).head = (s.port r).head := by
  unfold State.chooseFrame
  split
  · split
    · rfl
    · split
      · rfl
      · cases p <;> cases r <;> rfl
  · rfl

theorem chooseBoth_headsEmpty {s : State} (h : s.HeadsEmpty) : s.chooseBoth.HeadsEmpty := by
  have key : ∀ r, (s.chooseBoth.port r).head = (s.port r).head := fun r => by
    rw [State.chooseBoth, chooseFrame_head, chooseFrame_head]
  exact ⟨(key .up).trans h.1, (key .dn).trans h.2⟩

theorem heldReady_of_headsEmpty {s : State} (h : s.HeadsEmpty) (b : Before) (p : Port) : s.heldReady b p = false := by
  cases p <;> simp [State.heldReady, State.port, h.1, h.2]

theorem heldReady_of_headFits {s : State} {p : Port} (h : s.headFits p = false) (b : Before) :
    s.heldReady b p = false := by
  unfold State.headFits at h
  unfold State.heldReady
  split <;> simp_all

theorem queueNote_headsEmpty {s : State} (h : s.HeadsEmpty) : s.queueNote.HeadsEmpty := by
  simp only [State.HeadsEmpty, State.queueNote, State.enqueue_up, State.enqueue_dn]
  exact h

/-- No transmitter serves the input queue. -/
theorem chooseFrame_cfgIn (s : State) (p : Port) : (s.chooseFrame p).queues.cfgIn = s.queues.cfgIn := by
  unfold State.chooseFrame
  split
  · split
    · rfl
    · rename_i q hq
      have hm := List.mem_of_find?_eq_some hq
      split
      · rfl
      · cases p <;> cases q <;> first | rfl | simp [txQueues] at hm
  · rfl

theorem chooseBoth_cfgIn (s : State) : s.chooseBoth.queues.cfgIn = s.queues.cfgIn := by
  rw [State.chooseBoth, chooseFrame_cfgIn, chooseFrame_cfgIn]

theorem chooseFrame_notices (s : State) (p : Port) : (s.chooseFrame p).notices = s.notices := by
  unfold State.chooseFrame
  split
  · split
    · rfl
    · split
      · rfl
      · cases p <;> rfl
  · rfl

/-- A queued NOTE clears the mark, so none is offered after it. -/
theorem queueNote_noteReady (s : State) : s.queueNote.chooseBoth.noteReady = false := by
  simp [State.noteReady, State.chooseBoth, chooseFrame_notices, State.queueNote]

theorem rspAwaited_of_headsEmpty {s : State} (h : s.HeadsEmpty) : s.rspAwaited = !s.queues.cfgIn.isEmpty := by
  simp [State.rspAwaited, h.1]

/-- With both heads empty, an event ends as `endEvent` says. -/
theorem quiesce_settle {s : State} (h : s.HeadsEmpty) (b : Before) :
    quiesce 2 [.settle b] s = some (s.endEvent b.owed) := by
  have hc := chooseBoth_headsEmpty h
  have hu := heldReady_of_headsEmpty hc b .up
  have hd := heldReady_of_headsEmpty hc b .dn
  have hn := chooseBoth_headsEmpty (queueNote_headsEmpty hc)
  have hnu := heldReady_of_headsEmpty hn b .up
  have hnd := heldReady_of_headsEmpty hn b .dn
  have ho : s.chooseBoth.noteOffered b = (s.chooseBoth.noteReady && (!b.owed || s.queues.cfgIn.isEmpty)) := by
    simp [State.noteOffered, rspAwaited_of_headsEmpty hc, chooseBoth_cfgIn]
  have hr : s.chooseBoth.queueNote.chooseBoth.noteOffered b = false := by
    simp [State.noteOffered, queueNote_noteReady]
  unfold State.endEvent
  rw [← ho]
  by_cases h1 : s.chooseBoth.noteOffered b = true
  · simp [quiesce, micro, State.settle, hu, hd, hnu, hnd, h1, hr]
  · simp [quiesce, micro, State.settle, hu, hd, h1]

/-- An event that sets off no work and leaves both heads empty. -/
theorem finish_nil {s : State} (h : s.HeadsEmpty) (b : Before) : finish b (s, []) = .next (s.endEvent b.owed) :=
  finish_of_quiesce (n := 2) (quiesce_settle h b) (by decide)

/-- An event whose work comes to a state with both heads empty. -/
theorem finish_work {n : Nat} {s t : State} {ws : List Work} (hw : quiesce n ws s = some t) (h : t.HeadsEmpty)
    (b : Before) (hn : n + 2 ≤ Config.chainFuel) : finish b (s, ws) = .next (t.endEvent b.owed) :=
  finish_of_quiesce (quiesce_append hw (quiesce_settle h b)) hn

/-- An event whose work comes to a state ends as `ends` says. -/
theorem event_comesTo {s u : State} {a : Act} (h : comesTo a u) : s.event a = .next (s.ends u) := by
  obtain ⟨n, hn, hq, hu⟩ := h
  exact finish_work (s := a.1) (ws := a.2) hq hu s.before (by omega)

/-- An event that leaves nothing to do at its end. -/
theorem finish_settled {n : Nat} {s t : State} {ws : List Work} (hw : quiesce n ws s = some t) (h : t.Settled)
    (b : Before) (hn : n + 1 ≤ Config.chainFuel) : finish b (s, ws) = .next t := by
  refine finish_of_quiesce (quiesce_append hw (m := 1) ?_) hn
  obtain ⟨hc, hu, hd, hr⟩ := h
  simp [quiesce, micro, State.settle, State.noteOffered, hc, heldReady_of_headFits hu, heldReady_of_headFits hd, hr]

/-! ## Commands and steps -/

/-- Commands whose meaning is an event, with the work each begins with. -/
theorem event_keeps {P : List Work → State → Prop}
    (hP : ∀ w ws s, P (w :: ws) s → P ((micro w s).2 ++ ws) (micro w s).1)
    {b : Before} {a : Act} {t : State} (ha : P (a.2 ++ [.settle b]) a.1) (h : finish b a = .next t) :
    P [] t :=
  quiesce_keeps hP ha (finish_eq_next.mp h)

/-- The front command runs on the state with the queue's rest. -/
theorem step_cons {s : State} {c : Instr} {rest : List Instr} (h : s.pending = c :: rest) :
    step s = exec c { s with pending := rest } := by
  simp [step, h]

/-- A next state of a step is one of a command on a state with another queue or a tick more, or a tick itself. -/
theorem step_cases {s t : State} (h : step s = .next t) :
    (∃ c rest, s.pending = c :: rest ∧ exec c { s with pending := rest } = .next t)
      ∨ (s.pending = [] ∧ ∃ c, s.dueCommand = some c ∧ exec c s = .next t)
      ∨ (s.pending = [] ∧ s.dueCommand = none ∧ s.tick.milli = s.milli ∧ t = s.tick)
      ∨ (s.pending = [] ∧ s.dueCommand = none ∧ s.tick.milli ≠ s.milli
          ∧ exec .indicatorPhaseAdvance s.tick = .next t) := by
  unfold step at h
  split at h
  · exact .inl ⟨_, _, ‹_›, h⟩
  · unfold State.idle at h
    split at h
    · exact .inr (.inl ⟨‹_›, _, ‹_›, h⟩)
    · unfold State.pass at h
      split at h
      · exact .inr (.inr (.inl ⟨‹_›, ‹_›, ‹_›, (Host.Outcome.next.inj h).symm⟩))
      · exact .inr (.inr (.inr ⟨‹_›, ‹_›, ‹_›, h⟩))

/-- An invariant kept by every command, by the choice of a queue and by a tick is kept by every step. -/
theorem step_keeps {P : State → Prop} (hexec : ∀ c s t, P s → exec c s = .next t → P t)
    (hqueue : ∀ s l, P s → P { s with pending := l }) (htick : ∀ s, P s → P s.tick)
    {s t : State} (hs : P s) (h : step s = .next t) : P t := by
  obtain ⟨c, rest, -, h⟩ | ⟨-, c, -, h⟩ | ⟨-, -, -, rfl⟩ | ⟨-, -, -, h⟩ := step_cases h
  · exact hexec c _ t (hqueue s rest hs) h
  · exact hexec c s t hs h
  · exact htick s hs
  · exact hexec _ _ t (htick s hs) h

end Sys2Proof.Machine
end

