-- ==== Sys2Proof/Laws/Link.lean ====
section
/-! SUPPORT. What each shared operation of the links, the queues and the classifier can do, said once. -/

namespace Sys2Proof.Machine

open Sys2Proof

/-- R154: a frame joins the tail of a queue with a free place, and a full queue is left. -/
theorem enqueue_cases (s : State) (q : QueueId) (f : Frame) :
    (s.hasPlace q = true ∧ s.enqueue q f = s.setQueue q (s.queue q ++ [f]))
      ∨ (s.hasPlace q = false ∧ s.enqueue q f = s) := by
  unfold State.enqueue
  cases h : s.hasPlace q <;> simp

theorem hasPlace_iff (s : State) (q : QueueId) : s.hasPlace q = true ↔ (s.queue q).length < capacity q := by
  simp [State.hasPlace]

@[simp] theorem enqueue_port (s : State) (q : QueueId) (f : Frame) (p : Port) : (s.enqueue q f).port p = s.port p := by
  cases p
  · exact State.enqueue_up s q f
  · exact State.enqueue_dn s q f

/-- R155, R156: a transmitter takes nothing, or the head of a non-empty queue of its port, every queue before it
in the port's order being empty. -/
theorem chooseFrame_cases (s : State) (p : Port) :
    s.chooseFrame p = s
      ∨ ∃ q f rest, (s.port p).canChoose = true ∧ q ∈ txQueues p ∧ s.queue q = f :: rest
          ∧ ((txQueues p).find? fun r => !(s.queue r).isEmpty) = some q
          ∧ s.chooseFrame p = (s.setQueue q rest).setPort p { s.port p with sending := some (q, f) } := by
  unfold State.chooseFrame
  split
  · split
    · exact .inl rfl
    · rename_i q hq
      split
      · exact .inl rfl
      · exact .inr ⟨q, _, _, ‹_›, List.mem_of_find?_eq_some hq, ‹_›, hq, rfl⟩
  · exact .inl rfl

/-- A transmitter that may not choose, or finds its queues empty, takes nothing. -/
theorem chooseFrame_idle {s : State} {p : Port}
    (h : (s.port p).canChoose = false ∨ ∀ q ∈ txQueues p, s.queue q = []) : s.chooseFrame p = s := by
  obtain h' | ⟨q, f, rest, hc, hq, hf, -, -⟩ := chooseFrame_cases s p
  · exact h'
  · obtain h | h := h
    · simp [h] at hc
    · simp [h q hq] at hf

/-- R157: a judged head is empty, or taken with its fate, or stays. -/
theorem judgeHead_cases (s : State) (p : Port) :
    (∃ f, (s.port p).head = some f ∧ s.fits (s.fate p f) = true ∧ s.judgeHead p = s.takeHead p f (s.fate p f))
      ∨ s.judgeHead p = (s, []) := by
  unfold State.judgeHead
  split
  · exact .inr rfl
  · split
    · exact .inl ⟨_, ‹_›, ‹_›, rfl⟩
    · exact .inr rfl

/-- R149, R150: what the end of a received sequence does. -/
theorem receive_cases (s : State) (p : Port) (bytes : List Byte) :
    ((s.port p).linkUp = false ∧ s.receive p bytes = (s, []))
      ∨ (s.receive p bytes = (s.linkError p, []))
      ∨ ∃ f, (s.port p).linkUp = true ∧ receivedFrame p bytes = some f ∧ (s.port p).head = none
          ∧ s.receive p bytes = (s.setPort p { s.port p with head := some f }, [.judge p]) := by
  unfold State.receive
  cases hl : (s.port p).linkUp
  · simp
  · simp only [Bool.not_true, Bool.false_eq_true, if_false]
    split
    · exact .inr (.inl rfl)
    · split
      · exact .inr (.inl rfl)
      · rename_i hh
        exact .inr (.inr ⟨_, trivial, ‹_›, by simpa using hh, rfl⟩)

/-- The fate of a frame that is no signal needs no entry of the signal table, and its taking sets off its fate alone. -/
theorem takeHead_of_ne_sig {s : State} {p : Port} {f : Frame} {fate : Fate} (h : f.kind ≠ .sig) :
    s.takeHead p f fate = (s.emptyHead p, [.carry fate f]) := by
  simp [State.takeHead, h]

/-- The fate of a frame does not read the receive heads. -/
theorem fate_setHead (s : State) (p r : Port) (h : Option Frame) (f : Frame) :
    (s.setPort r { s.port r with head := h }).fate p f = s.fate p f := by
  cases p <;> cases r <;> rfl

/-- R191: the owed NOTE is queued, or nothing is done. -/
theorem tryNote_cases (s : State) : (s.noteReady = true ∧ s.tryNote = s.queueNote) ∨ s.tryNote = s := by
  unfold State.tryNote
  split
  · exact .inl ⟨‹_›, rfl⟩
  · exact .inr rfl

/-- The end of an event: a held head is taken, or the NOTE is queued, or nothing is left to do. -/
theorem settle_cases (s : State) (b : Before) :
    (∃ p, s.chooseBoth.heldReady b p = true ∧ s.settle b = (s.chooseBoth, [.judge p, .settle b]))
      ∨ (s.chooseBoth.noteOffered b = true ∧ s.settle b = (s.chooseBoth.queueNote, [.settle b]))
      ∨ s.settle b = (s.chooseBoth, []) := by
  unfold State.settle
  by_cases hu : s.chooseBoth.heldReady b .up = true
  · exact .inl ⟨.up, hu, by simp [hu]⟩
  · by_cases hd : s.chooseBoth.heldReady b .dn = true
    · exact .inl ⟨.dn, hd, by simp [hu, hd]⟩
    · by_cases hn : s.chooseBoth.noteOffered b = true
      · exact .inr (.inl ⟨hn, by simp [hu, hd, hn]⟩)
      · exact .inr (.inr (by simp [hu, hd, hn]))

/-- R149, R150, R182: what a request of the hub does at the port and at the input queue. -/
theorem offerRequest_cases (s : State) (f : Frame) :
    (s.offerRequest f).2 = [] ∧ ((s.offerRequest f).1 = s ∨ (s.offerRequest f).1 = s.linkError .up
        ∨ (f.wf = true ∧ s.up.head = none ∧ s.hasPlace .cfgIn = false
            ∧ (s.offerRequest f).1 = s.setPort .up { s.up with head := some f }))
      ∨ (f.wf = true ∧ s.queues.cfgIn.head? = some f ∧ s.offerRequest f = (s, [.serve]))
      ∨ (f.wf = true ∧ s.up.head = none ∧ s.hasPlace .cfgIn = true ∧ s.offerRequest f = (s.enqueue .cfgIn f, [.serve]))
      ∨ (f.wf = true ∧ s.up.head = none ∧ s.offerRequest f = (s, [.serve, .carry (.place .cfgIn f) f])) := by
  unfold State.offerRequest
  by_cases h1 : f.wf = true
  · by_cases h2 : s.queues.cfgIn.head? = some f
    · simp [h1, h2]
    · cases h3 : s.up.head with
      | some g => simp [h1, h2]
      | none =>
        cases h4 : s.hasPlace .cfgIn
        · cases h5 : s.mayServe <;> simp [h1, h2]
        · simp [h1, h2]
  · cases h6 : s.up.linkUp <;> simp [h1]

/-! ## The configuration unit -/

/-- R182: the head of the input queue is executed and answered, or nothing is done. -/
theorem serveRequest_cases (s : State) :
    (∃ f rest, s.queues.cfgIn = f :: rest ∧ s.mayServe = true
        ∧ s.serveRequest = ((s.setQueue .cfgIn rest).execute f).1.respond ((s.setQueue .cfgIn rest).execute f).2)
      ∨ s.serveRequest = s := by
  unfold State.serveRequest
  split
  · exact .inr rfl
  · split
    · exact .inl ⟨_, _, ‹_›, ‹_›, rfl⟩
    · exact .inr rfl

/-- R183: a write that changes anything passed every check on its table, index and mask. -/
theorem executeWrite_cases (s : State) (table index : Nat) (mask : BitVec 16) (values : List Byte) :
    (s.executeWrite table index mask values).1 = s
      ∨ (∃ n, table = 11 ∧ recordIndex 16 index = some n
          ∧ s.executeWrite table index mask values = (s.clearCaptureRecord n, .ok))
      ∨ ∃ sel, table ≤ 14 ∧ indexInRange table index = true ∧ readOnlyTable table = false ∧ table ≠ 11
          ∧ selection table mask values = some sel ∧ mask ≠ 0
          ∧ s.executeWrite table index mask values = s.writeTable table index sel := by
  unfold State.executeWrite
  by_cases h1 : 14 < table
  · exact .inl (by simp [h1, State.refuse])
  by_cases h2 : indexInRange table index = true
  · by_cases h3 : readOnlyTable table = true
    · exact .inl (by simp [h1, h2, h3, State.refuse])
    by_cases h4 : table = 11
    · subst h4
      cases hn : recordIndex 16 index with
      | none => exact .inl (by simp [h2, h3, State.refuse])
      | some n => exact .inr (.inl ⟨n, rfl, rfl, by simp [h2, h3, accept]⟩)
    · cases hs : selection table mask values with
      | none => exact .inl (by simp [h1, h2, h3, h4, State.refuse])
      | some sel =>
        by_cases h5 : mask = 0
        · exact .inl (by simp [h1, h2, h3, h4, h5, accept])
        · exact .inr (.inr ⟨sel, by omega, h2, by simpa using h3, h4, rfl, h5, by simp [h1, h2, h3, h4]; exact fun h => absurd h h5⟩)
  · exact .inl (by simp [h1, h2, State.refuse])

end Sys2Proof.Machine
end

