-- ==== Sys2Proof/Laws/PerInstr.lean ====
section
/-! SUPPORT. Per command: the CFG frame of a request spells the request's own row, so no operand of a row is lost
on the way through the input queue (R184 to R186). -/

namespace Sys2Proof.Machine

open Sys2Proof

/-- The two bytes of a 16-bit field, most significant first, spell it. -/
theorem bytes_append (v : BitVec 16) :
    (BitVec.ofNat 8 (v.toNat / 256) ++ BitVec.ofNat 8 v.toNat : BitVec 16) = v := by
  apply BitVec.eq_of_toNat_eq
  have := v.isLt
  simp only [BitVec.toNat_append, BitVec.toNat_ofNat]
  rw [Nat.shiftLeft_eq, ← Nat.shiftLeft_eq, ← Nat.shiftLeft_add_eq_or_of_lt (by omega), Nat.shiftLeft_eq]
  omega

theorem bytes_append_setWidth (v : BitVec 16) :
    (BitVec.ofNat 8 (v.toNat / 256) ++ BitVec.setWidth 8 v : BitVec 16) = v := by
  simpa using bytes_append v

theorem fieldBytes_two (v : Nat) : fieldBytes 2 v = [BitVec.ofNat 8 (v / 256), BitVec.ofNat 8 v] := by
  simp [fieldBytes]

theorem cfgWrite_mask (tag : BitVec 4) (table index : Byte) (mask : BitVec 16) (values : List Byte) :
    (cfgWrite tag table index mask values).mask = mask := by
  simp [Frame.mask, cfgWrite, fieldBytes_two, bytes_append_setWidth]

theorem cfgWrite_body (tag : BitVec 4) (table index : Byte) (mask : BitVec 16) (values : List Byte) :
    (cfgWrite tag table index mask values).body
      = table :: index :: BitVec.ofNat 8 (mask.toNat / 256) :: BitVec.ofNat 8 mask.toNat :: values := by
  simp [cfgWrite, fieldBytes_two]

/-- A write of table 0 that executes a command spells that command. -/
theorem requestInstr_command (tag : BitVec 4) (code : Byte) (arg : BitVec 16)
    (h : 1 ≤ code.toNat ∧ code.toNat ≤ 7) :
    requestInstr (cfgCommand tag code arg) =
      match code.toNat with
      | 1 => .applyNow tag arg
      | 2 => .applyAtRest tag arg
      | 3 => .clearNotices tag arg
      | 4 => .setNoticeEnable tag arg
      | 5 => .restoreStaged tag arg
      | 6 => .clearTripRecord tag arg
      | _ => .clearCounters tag arg := by
  have hb : (cfgCommand tag code arg).body
      = [0, code, 0, 1, BitVec.ofNat 8 (arg.toNat / 256), BitVec.ofNat 8 arg.toNat] := by
    simp [cfgCommand, cfgWrite_body, fieldBytes_two]
  have hm : (cfgCommand tag code arg).mask = 1 := cfgWrite_mask _ _ _ _ _
  have hk : (cfgCommand tag code arg).kind = .cfgWr := rfl
  have ht : (cfgCommand tag code arg).tag = tag := rfl
  unfold requestInstr
  simp only [hb, hm, hk, ht]
  simp only [List.getD_cons_zero, List.getD_cons_succ, bytes_append]
  exact if_pos ⟨rfl, trivial, rfl, h⟩

/-- A write of a table with a row of its own, or of none, by the table's number. -/
theorem requestInstr_write (tag : BitVec 4) (table index : Byte) (mask : BitVec 16) (values : List Byte)
    (h : isCommand table index mask values = false) :
    requestInstr (cfgWrite tag table index mask values) =
      match table.toNat with
      | 1 => .stagedWrite tag .planHeader index mask values
      | 2 => .stagedWrite tag .planStep index mask values
      | 5 => .stagedWrite tag .domainConfig index mask values
      | 8 => .countingEnableWrite tag index mask values
      | 9 => .signalTableWrite tag index mask values
      | 10 => .wakeTableWrite tag index mask values
      | 11 => .captureRecordClear tag index mask values
      | 12 => .agentTableWrite tag index mask values
      | 13 => if selectsTime mask then .buttonTimesWrite tag index mask values
              else .indicatorPatternWrite tag index mask values
      | _ => .cfgWr tag table index mask values := by
  have hm := cfgWrite_mask tag table index mask values
  have hk : (cfgWrite tag table index mask values).kind = .cfgWr := rfl
  have ht : (cfgWrite tag table index mask values).tag = tag := rfl
  have hc : ¬(table.toNat = 0 ∧ mask = 1 ∧ values.length = 2 ∧ 1 ≤ index.toNat ∧ index.toNat ≤ 7) := by
    intro hc
    have h0 : table = 0 := BitVec.eq_of_toNat_eq (by simpa using hc.1)
    simp [isCommand, h0, hc.2.1, hc.2.2.1, hc.2.2.2.1, hc.2.2.2.2] at h
  unfold requestInstr
  simp only [hm, hk, ht, cfgWrite_body]
  simp only [List.getD_cons_zero, List.getD_cons_succ, List.drop_succ_cons, List.drop_zero]
  rw [if_neg hc]
  rfl

end Sys2Proof.Machine

namespace Sys2Proof.Laws

open Sys2Proof Sys2Proof.Machine

/-- A well-formed command that stands for a CFG frame is the command that frame spells. -/
def RequestRow.Statement (i : Instr) : Prop := i.wf = true → ∀ f, requestOf i = some f → requestInstr f = i

theorem RequestRow.powerOnReset (strap : Strap) (wakeA wakeB buttonLow : Bool) (pg : BitVec 10) :
    RequestRow.Statement (.powerOnReset strap wakeA wakeB buttonLow pg) := by
  rintro - f h
  exact absurd h (by simp [requestOf])

theorem RequestRow.linkUp (p : Port) : RequestRow.Statement (.linkUp p) := by
  rintro - f h
  exact absurd h (by simp [requestOf])

theorem RequestRow.linkDown (p : Port) : RequestRow.Statement (.linkDown p) := by
  rintro - f h
  exact absurd h (by simp [requestOf])

theorem RequestRow.frameReceived (p : Port) (bytes : List Byte) :
    RequestRow.Statement (.frameReceived p bytes) := by
  rintro - f h
  exact absurd h (by simp [requestOf])

theorem RequestRow.frameTaken (p : Port) : RequestRow.Statement (.frameTaken p) := by
  rintro - f h
  exact absurd h (by simp [requestOf])

theorem RequestRow.partnerReadyAsserted (p : Port) : RequestRow.Statement (.partnerReadyAsserted p) := by
  rintro - f h
  exact absurd h (by simp [requestOf])

theorem RequestRow.transmissionEnd (p : Port) : RequestRow.Statement (.transmissionEnd p) := by
  rintro - f h
  exact absurd h (by simp [requestOf])

theorem RequestRow.emitFramePlaced : RequestRow.Statement (.emitFramePlaced) := by
  rintro - f h
  exact absurd h (by simp [requestOf])

theorem RequestRow.syncComplete : RequestRow.Statement (.syncComplete) := by
  rintro - f h
  exact absurd h (by simp [requestOf])

theorem RequestRow.rollbackSignalPlaced : RequestRow.Statement (.rollbackSignalPlaced) := by
  rintro - f h
  exact absurd h (by simp [requestOf])

theorem RequestRow.pgRise (d : DomainId) : RequestRow.Statement (.pgRise d) := by
  rintro - f h
  exact absurd h (by simp [requestOf])

theorem RequestRow.pgFall (d : DomainId) : RequestRow.Statement (.pgFall d) := by
  rintro - f h
  exact absurd h (by simp [requestOf])

theorem RequestRow.holdOffExpiry (d : DomainId) : RequestRow.Statement (.holdOffExpiry d) := by
  rintro - f h
  exact absurd h (by simp [requestOf])

theorem RequestRow.overrangeExpiry (d : DomainId) : RequestRow.Statement (.overrangeExpiry d) := by
  rintro - f h
  exact absurd h (by simp [requestOf])

theorem RequestRow.budgetExpiry : RequestRow.Statement (.budgetExpiry) := by
  rintro - f h
  exact absurd h (by simp [requestOf])

theorem RequestRow.parkLimit : RequestRow.Statement (.parkLimit) := by
  rintro - f h
  exact absurd h (by simp [requestOf])

theorem RequestRow.rollbackWaitExpiry : RequestRow.Statement (.rollbackWaitExpiry) := by
  rintro - f h
  exact absurd h (by simp [requestOf])

theorem RequestRow.wakeLineAssertion (l : WakeLine) : RequestRow.Statement (.wakeLineAssertion l) := by
  rintro - f h
  exact absurd h (by simp [requestOf])

theorem RequestRow.pressEdge : RequestRow.Statement (.pressEdge) := by
  rintro - f h
  exact absurd h (by simp [requestOf])

theorem RequestRow.release : RequestRow.Statement (.release) := by
  rintro - f h
  exact absurd h (by simp [requestOf])

theorem RequestRow.debounceExpiry : RequestRow.Statement (.debounceExpiry) := by
  rintro - f h
  exact absurd h (by simp [requestOf])

theorem RequestRow.overrideExpiry : RequestRow.Statement (.overrideExpiry) := by
  rintro - f h
  exact absurd h (by simp [requestOf])

theorem RequestRow.indicatorPhaseAdvance : RequestRow.Statement (.indicatorPhaseAdvance) := by
  rintro - f h
  exact absurd h (by simp [requestOf])

theorem RequestRow.applyNow (tag : BitVec 4) (arg : BitVec 16) : RequestRow.Statement (.applyNow tag arg) := by
  rintro - f ⟨⟩
  exact requestInstr_command _ _ _ (by decide)

theorem RequestRow.applyAtRest (tag : BitVec 4) (arg : BitVec 16) :
    RequestRow.Statement (.applyAtRest tag arg) := by
  rintro - f ⟨⟩
  exact requestInstr_command _ _ _ (by decide)

theorem RequestRow.clearNotices (tag : BitVec 4) (arg : BitVec 16) :
    RequestRow.Statement (.clearNotices tag arg) := by
  rintro - f ⟨⟩
  exact requestInstr_command _ _ _ (by decide)

theorem RequestRow.setNoticeEnable (tag : BitVec 4) (arg : BitVec 16) :
    RequestRow.Statement (.setNoticeEnable tag arg) := by
  rintro - f ⟨⟩
  exact requestInstr_command _ _ _ (by decide)

theorem RequestRow.restoreStaged (tag : BitVec 4) (arg : BitVec 16) :
    RequestRow.Statement (.restoreStaged tag arg) := by
  rintro - f ⟨⟩
  exact requestInstr_command _ _ _ (by decide)

theorem RequestRow.clearTripRecord (tag : BitVec 4) (arg : BitVec 16) :
    RequestRow.Statement (.clearTripRecord tag arg) := by
  rintro - f ⟨⟩
  exact requestInstr_command _ _ _ (by decide)

theorem RequestRow.clearCounters (tag : BitVec 4) (arg : BitVec 16) :
    RequestRow.Statement (.clearCounters tag arg) := by
  rintro - f ⟨⟩
  exact requestInstr_command _ _ _ (by decide)

theorem RequestRow.stagedWrite (tag : BitVec 4) (table : StagedTable) (index : Byte) (mask : BitVec 16) (values : List Byte) :
    RequestRow.Statement (.stagedWrite tag table index mask values) := by
  rintro - f ⟨⟩
  cases table <;> exact requestInstr_write _ _ _ _ _ rfl

theorem RequestRow.signalTableWrite (tag : BitVec 4) (index : Byte) (mask : BitVec 16) (values : List Byte) :
    RequestRow.Statement (.signalTableWrite tag index mask values) := by
  rintro - f ⟨⟩
  exact requestInstr_write _ _ _ _ _ rfl

theorem RequestRow.wakeTableWrite (tag : BitVec 4) (index : Byte) (mask : BitVec 16) (values : List Byte) :
    RequestRow.Statement (.wakeTableWrite tag index mask values) := by
  rintro - f ⟨⟩
  exact requestInstr_write _ _ _ _ _ rfl

theorem RequestRow.captureRecordClear (tag : BitVec 4) (index : Byte) (mask : BitVec 16) (values : List Byte) :
    RequestRow.Statement (.captureRecordClear tag index mask values) := by
  rintro - f ⟨⟩
  exact requestInstr_write _ _ _ _ _ rfl

theorem RequestRow.agentTableWrite (tag : BitVec 4) (index : Byte) (mask : BitVec 16) (values : List Byte) :
    RequestRow.Statement (.agentTableWrite tag index mask values) := by
  rintro - f ⟨⟩
  exact requestInstr_write _ _ _ _ _ rfl

theorem RequestRow.countingEnableWrite (tag : BitVec 4) (index : Byte) (mask : BitVec 16) (values : List Byte) :
    RequestRow.Statement (.countingEnableWrite tag index mask values) := by
  rintro - f ⟨⟩
  exact requestInstr_write _ _ _ _ _ rfl

theorem RequestRow.indicatorPatternWrite (tag : BitVec 4) (index : Byte) (mask : BitVec 16) (values : List Byte) :
    RequestRow.Statement (.indicatorPatternWrite tag index mask values) := by
  rintro hw f ⟨⟩
  simp only [Instr.wf, Bool.and_eq_true, Bool.not_eq_true'] at hw
  rw [requestInstr_write _ _ _ _ _ rfl]
  simp [hw.2]

theorem RequestRow.buttonTimesWrite (tag : BitVec 4) (index : Byte) (mask : BitVec 16) (values : List Byte) :
    RequestRow.Statement (.buttonTimesWrite tag index mask values) := by
  rintro hw f ⟨⟩
  simp only [Instr.wf, Bool.and_eq_true] at hw
  rw [requestInstr_write _ _ _ _ _ rfl]
  simp [hw.2]

theorem RequestRow.domainStatusRead (tag : BitVec 4) (table index : Byte) :
    RequestRow.Statement (.domainStatusRead tag table index) := by
  rintro - f ⟨⟩
  rfl

theorem RequestRow.cfgWr (tag : BitVec 4) (table index : Byte) (mask : BitVec 16) (values : List Byte) :
    RequestRow.Statement (.cfgWr tag table index mask values) := by
  rintro hw f ⟨⟩
  simp only [Instr.wf, Bool.and_eq_true, Bool.not_eq_true'] at hw
  rw [requestInstr_write _ _ _ _ _ hw.2]
  have hrow := hw.1.2
  simp only [ownRow, Bool.or_eq_false_iff, beq_eq_false_iff_ne, ne_eq, Bool.and_eq_false_iff, decide_eq_false_iff_not] at hrow
  have h1 : table.toNat ≠ 1 := fun h => hrow.1.1.1 (BitVec.eq_of_toNat_eq h)
  have h2 : table.toNat ≠ 2 := fun h => hrow.1.1.2 (BitVec.eq_of_toNat_eq h)
  have h5 : table.toNat ≠ 5 := fun h => hrow.1.2 (BitVec.eq_of_toNat_eq h)
  have h8 : table.toNat < 8 ∨ 13 < table.toNat := by omega
  split <;> first | omega | rfl

theorem RequestRow.noteQueued : RequestRow.Statement (.noteQueued) := by
  rintro - f h
  exact absurd h (by simp [requestOf])

theorem RequestRow.partnerReadyDeasserted (p : Port) : RequestRow.Statement (.partnerReadyDeasserted p) := by
  rintro - f h
  exact absurd h (by simp [requestOf])

theorem RequestRow.wakeLineFallingEdge (l : WakeLine) : RequestRow.Statement (.wakeLineFallingEdge l) := by
  rintro - f h
  exact absurd h (by simp [requestOf])

end Sys2Proof.Laws
end

