-- ==== Sys2Proof/Laws/Sequencer.lean ====
section
/-! SUPPORT. What each shared operation of the domain controller, the sequencer, the wake unit and the button
unit can do, said once. -/

namespace Sys2Proof.Machine

open Sys2Proof

/-! ## Domain controller -/

/-- R74, R101: the hold-off starts with its computed length, or, with a length of 0, expires in this event. -/
theorem startHold_cases (s : State) (d : DomainId) :
    (holdOffLength (s.cfg d).holdMin (s.dom d).fallAvg = 0
        ∧ s.startHold d = (s.setDom d { s.dom d with hold := none }, [.holdOver d]))
      ∨ (0 < holdOffLength (s.cfg d).holdMin (s.dom d).fallAvg
        ∧ s.startHold d
          = (s.setDom d { s.dom d with hold := some ⟨s.fine, holdOffLength (s.cfg d).holdMin (s.dom d).fallAvg⟩ }, [])) := by
  unfold State.startHold
  by_cases h : holdOffLength (s.cfg d).holdMin (s.dom d).fallAvg = 0
  · exact .inl ⟨h, by simp [h]⟩
  · exact .inr ⟨by omega, by simp [h]⟩

/-- R82: a pinned domain is enabled where the test finds it due, and left otherwise. -/
theorem tryPinned_cases (s : State) (d : DomainId) :
    (s.pinnedDue d = true ∧ s.tryPinned d = s.changeDom d ((s.dom d).rise s.fine))
      ∨ (s.pinnedDue d = false ∧ s.tryPinned d = s) := by
  unfold State.tryPinned
  cases h : s.pinnedDue d <;> simp

/-- R73, R74: an entry into OFF reports the arrival first; its hold-off runs, or expires after the report (log 13). -/
theorem enterOff_cases (s : State) (d : DomainId) (r : DomainRuntime) :
    let off := s.changeDom d { r with state := .off }
    let len := holdOffLength (off.cfg d).holdMin (off.dom d).fallAvg
    (len = 0 ∧ s.enterOff d r = (off.setDom d { off.dom d with hold := none }, [.offReport d, .holdOver d]))
      ∨ (0 < len ∧ s.enterOff d r = (off.setDom d { off.dom d with hold := some ⟨off.fine, len⟩ }, [.offReport d])) := by
  rcases startHold_cases (s.changeDom d { r with state := .off }) d with ⟨h, e⟩ | ⟨h, e⟩
  · exact .inl ⟨h, by simp only [State.enterOff, e]⟩
  · exact .inr ⟨h, by simp only [State.enterOff, e]⟩

/-- R82: the test of a pinned domain touches the runtime records and the notices alone. -/
theorem tryPinned_shape (s : State) (d : DomainId) :
    s.tryPinned d = { s with domains := (s.tryPinned d).domains, notices := (s.tryPinned d).notices } := by
  rcases tryPinned_cases s d with ⟨_, e⟩ | ⟨_, e⟩
  · rw [e]; rfl
  · rw [e]

/-- R82: the arrival of a domain at ON touches the runtime records and the notices alone. -/
theorem parentArrived_shape (s : State) (d : DomainId) :
    s.parentArrived d
      = { s with domains := (s.parentArrived d).domains, notices := (s.parentArrived d).notices } := by
  have fold : ∀ (l : List DomainId) (t : State),
      let u := l.foldl (fun t c => if t.isChild d c then t.tryPinned c else t) t
      u = { t with domains := u.domains, notices := u.notices } := by
    intro l
    induction l with
    | nil => intro t; rfl
    | cons c l ih =>
      intro t
      have h := ih (if t.isChild d c then t.tryPinned c else t)
      simp only [List.foldl_cons]
      rw [h]
      split
      · rw [tryPinned_shape t c]
      · rfl
  exact fold allDomains s

/-- R67: an enable request that is accepted moves an OFF or FAULT domain, and nothing else changes a domain. -/
theorem enableEffect_cases (s : State) (d : DomainId) (a : EnableAnswer) :
    (a = .accepted ∧ (s.dom d).state.enabled = false ∧ s.enableEffect d a = s.acceptEnable d)
      ∨ s.enableEffect d a = (s, []) := by
  cases a with
  | accepted => cases h : (s.dom d).state.enabled <;> simp [State.enableEffect, h]
  | dependency => exact .inr rfl
  | stillPowered => exact .inr rfl
  | deferred => exact .inr rfl

/-- R69: the five things a disable request can do. -/
theorem disableEffect_cases (s : State) (d : DomainId) :
    ((s.cfg d).pinned = true ∧ s.disableEffect d = (s.notify .pinnedHit, []))
      ∨ ((s.cfg d).pinned = false ∧ s.disableRefused d = false ∧ (s.dom d).state.enabled = true
          ∧ s.disableEffect d = s.dropEnable d)
      ∨ ((s.cfg d).pinned = false ∧ (s.dom d).state = .fault ∧ s.disableEffect d = s.clearFault d)
      ∨ s.disableEffect d = (s, []) := by
  unfold State.disableEffect
  cases hp : (s.cfg d).pinned
  · cases hr : s.disableRefused d
    · cases hs : (s.dom d).state <;> simp [DomainState.enabled]
    · simp
  · simp

/-- R90: a hold-off that is due runs, and its elapsed time has reached its length. -/
theorem holdDue_iff (s : State) (d : DomainId) :
    s.holdDue d = true ↔ ∃ h, (s.dom d).hold = some h ∧ h.length ≤ elapsed s.fine h.start := by
  unfold State.holdDue
  cases (s.dom d).hold <;> simp [expired]

/-! ## Sequencer -/

/-- R1, R127: a change of the platform state sets STATE_CHANGED; entering the state it is in changes nothing. -/
theorem enterPlatform_self {s : State} {p : PlatformState} (h : p = s.platform) : s.enterPlatform p = s := by
  simp [State.enterPlatform, h]

/-- R43: a push adds one record of a new subject, or leaves the stack. -/
theorem pushUndo_cases (s : State) (r : UndoRecord) :
    (s.ctx.portion = .check ∧ s.undo.all (fun u => !u.sameSubject r) = true
        ∧ s.pushUndo r = { s with undo := r :: s.undo })
      ∨ s.pushUndo r = s := by
  unfold State.pushUndo
  split
  · rename_i h
    exact .inl ⟨h.1, h.2, rfl⟩
  · exact .inr rfl

/-- R25: a wait begins, or expires at once under a budget of 0. -/
theorem waitFor_cases (s : State) (w : Wait) :
    (s.ctx.budget = some 0 ∧ s.waitFor w = (s.setWait w).expireWait)
      ∨ (s.ctx.budget ≠ some 0 ∧ s.waitFor w = (s.setWait w, [])) := by
  unfold State.waitFor
  by_cases h : s.ctx.budget = some 0 <;> simp [h]

/-- R55, R57: a trip cause starts the trip plan, or is counted in TRIPPING and TRIPPED. -/
theorem takeTrip_cases (s : State) (c : TripCause) :
    (s.platform = .tripping ∧ s.takeTrip c
        = ({ s with trip := s.trip.add c, ctx := { s.ctx with tripTarget := retarget s.ctx.tripTarget c } }, []))
      ∨ (s.platform = .tripped ∧ s.takeTrip c = ({ s with trip := s.trip.add c }, []))
      ∨ (s.platform ≠ .tripping ∧ s.platform ≠ .tripped ∧ s.takeTrip c = s.startTrip c) := by
  unfold State.takeTrip
  cases h : s.platform <;> simp

/-- R24: what the start of a step index does: nothing runs, the plan completes, or the step acts. -/
theorem startStep_cases (s : State) (i : Nat) :
    (s.runningPlan = none ∧ s.startStep i = (s, []))
      ∨ (∃ p, s.runningPlan = some p ∧ p.step? i = none ∧ s.startStep i = s.completePlan)
      ∨ ∃ p t, s.runningPlan = some p ∧ p.step? i = some t ∧ s.startStep i = (s.beginStep t i).stepAction t := by
  unfold State.startStep
  split
  · exact .inl ⟨‹_›, rfl⟩
  · split
    · exact .inr (.inl ⟨_, ‹_›, ‹_›, rfl⟩)
    · exact .inr (.inr ⟨_, _, ‹_›, ‹_›, rfl⟩)

/-- R31: a DELAY step that starts under a budget other than 0 waits. -/
theorem startStep_delays {s : State} {i : Nat} {t : Step} (h : s.delaysAt i t) :
    s.startStep i = (s.delaying i t, []) := by
  obtain ⟨hp, hk, hu, hb⟩ := h
  obtain ⟨p, hr, hi⟩ := Option.bind_eq_some_iff.mp hp
  have hbudget : (s.beginStep t i).ctx.budget ≠ some 0 := by
    simp only [State.beginStep, State.budgetFor, hk]
    cases hunit : t.unit with
    | fine => simp [hb]
    | milli => simp [hb]
    | learned => exact absurd hunit hu
  unfold State.startStep
  simp only [hr, hi, State.stepAction, hk, State.waitFor, if_neg hbudget]
  rfl

/-- R5: a REQUEST effect that computes the stored state does nothing. -/
theorem requestEffect_same {s : State} (h : s.computeRequested = s.requested) : s.requestEffect = (s, []) := by
  simp [State.requestEffect, h]

/-! ## Wake unit -/

/-- R110: an arrival is captured and judged, or comes from a source not enabled. -/
theorem arrival_cases (s : State) (n : SourceId) :
    ((s.wakes.get n).enabled = true
        ∧ s.arrival n = (s.capture n (s.judgeArrival n)).handOff n (s.judgeArrival n))
      ∨ ((s.wakes.get n).enabled = false ∧ s.arrival n = (s, [])) := by
  unfold State.arrival
  cases h : (s.wakes.get n).enabled <;> simp

/-- R106: with no source bound to it an edge is no arrival. -/
@[simp] theorem arrivals_nil (s : State) : s.arrivals [] = (s, []) := rfl

/-- R106: the first source arrives, and the others in the state that it leaves. -/
@[simp] theorem arrivals_cons (s : State) (n : SourceId) (ns : List SourceId) :
    s.arrivals (n :: ns) = (((s.arrival n).1.arrivals ns).1, (s.arrival n).2 ++ ((s.arrival n).1.arrivals ns).2) := rfl

/-- R106: sources that are not enabled arrive without effect. -/
theorem arrivals_disabled {s : State} {ns : List SourceId} (h : ∀ n ∈ ns, (s.wakes.get n).enabled = false) :
    s.arrivals ns = (s, []) := by
  induction ns with
  | nil => rfl
  | cons n ns ih =>
    simp [State.arrival, h n (by simp), ih fun m hm => h m (by simp [hm])]

/-- R107, R141: VETO and WAKE of one entry: the veto aborts and the rollback follows the wake, or the wake stands
alone. -/
theorem vetoWakeEffect_cases (s : State) (n : SourceId) (l : Level) :
    (l = .asserted ∧ (s.platform = .checking ∨ s.platform = .parked)
        ∧ s.vetoWakeEffect n l
          = (((s.abort .veto).1.wakeEffect n l).1, ((s.abort .veto).1.wakeEffect n l).2 ++ (s.abort .veto).2))
      ∨ ¬ (l = .asserted ∧ (s.platform = .checking ∨ s.platform = .parked))
        ∧ s.vetoWakeEffect n l = s.wakeEffect n l := by
  by_cases h : l = .asserted ∧ (s.platform = .checking ∨ s.platform = .parked)
  · exact .inl ⟨h.1, h.2, by simp [State.vetoWakeEffect, State.vetoEffect, h]⟩
  · exact .inr ⟨h, by simp [State.vetoWakeEffect, State.vetoEffect, h]⟩

/-! ## Button unit -/

/-- R123: the emission is placed with the mark written, or discarded with the mark cleared. -/
theorem buttonEmit_cases (s : State) (l : Level) :
    ((s.up.linkUp && s.hasPlace .upOwn) = true
        ∧ s.buttonEmit l
          = (s.enqueue .upOwn (ownSignal buttonSignal l)).setButton { s.button with hubMark := l == .asserted })
      ∨ ((s.up.linkUp && s.hasPlace .upOwn) = false
        ∧ s.buttonEmit l = (s.discard .up 1).setButton { s.button with hubMark := false }) := by
  unfold State.buttonEmit
  cases h : s.up.linkUp && s.hasPlace .upOwn <;> simp

end Sys2Proof.Machine
end

