-- ==== Sys2Proof/Tests/Slice0.lean ====
section
/-! SUPPORT. The model's own tests: ill-formed terms refused, the spec's worked figures, and for each statement with
hypotheses a state that meets them, each clause at a boundary of its range. -/

namespace Sys2Proof.Tests

set_option Elab.async false

open Sys2Proof Sys2Proof.Machine

/-! ## Well-formedness: one ill-formed term for each check -/

theorem test_wf_refuses_long_body :
    (Instr.signalTableWrite 0 0 0 (List.replicate 29 0)).wf = false
      ∧ (Instr.signalTableWrite 0 0 0 (List.replicate 28 0)).wf = true := by decide

theorem test_wf_refuses_times_under_pattern_row :
    (Instr.indicatorPatternWrite 0 0 0x100 [2]).wf = false ∧ (Instr.indicatorPatternWrite 0 0 0x200 [0, 244]).wf = false := by
  decide

theorem test_wf_refuses_times_row_without_a_time : (Instr.buttonTimesWrite 0 0 1 [0]).wf = false := by decide

theorem test_wf_refuses_write_with_own_row :
    (Instr.cfgWr 0 9 0 0 []).wf = false ∧ (Instr.cfgWr 0 3 0 0 []).wf = true := by decide

theorem test_wf_refuses_command_under_write_row :
    (Instr.cfgWr 0 0 7 1 [0, 0]).wf = false ∧ (Instr.cfgWr 0 0 8 1 [0, 0]).wf = true := by decide

/-! ## Worked figures of the spec -/

/-- R148's example: emit UP 20h ASSERTED. -/
theorem test_wire_of_emit_up_20 :
    (ownSignal 0x20 .asserted).wire = [0x10, 0x0F, 0x02, 0x20, 0x01, 0xA6]
      ∧ parseFrame [0x10, 0x0F, 0x02, 0x20, 0x01, 0xA6] = some (ownSignal 0x20 .asserted)
      ∧ parseFrame [0x10, 0x0F, 0x02, 0x20, 0x01, 0xA7] = none := by decide +kernel

/-- R178: the longest hold-off of a fall average learned under the ROM window; section 10.6: D4's learned budget. -/
theorem test_learned_figures :
    holdOffLength 3125 (some 125000) = 23438 ∧ learnedBudget (some 2400) 63 6250 = 900
      ∧ learnedBudget none 63 1875 = 1875 := by decide

/-- R177, R181: the ROM sets pass their own validation. -/
theorem test_rom_sets_are_valid :
    State.reset.judgeDomainSet romDomains = .success
      ∧ ∀ k : SlotId, State.reset.judgePlan k (romSet.plans.get k) = .success := by decide +kernel

/-! ## States of the witnesses -/

/-- The outcome is a next state with this property. -/
def nextHas (o : Host.Outcome State Fault Refusal) (p : State → Bool) : Bool :=
  match o with
  | .next t => p t
  | .fault _ | .refused _ => false

/-- RUN with every domain ON, both links UP, nothing in wait; the partners are not ready. -/
def quiet : State :=
  { State.reset with
    platform := .run,
    domains := Vector.ofFn fun _ => { resetDomain true with state := .on },
    up := { resetPort with linkUp := true },
    dn := { resetPort with linkUp := true } }

/-- The same with both partners ready. -/
def ready : State :=
  { quiet with up := { quiet.up with partnerReady := true }, dn := { quiet.dn with partnerReady := true } }

/-- A transfer from the hub to agent 1, with a reply wanted or not. -/
def xfer (wanted : Byte) : Frame := { kind := .xfer, tag := 9, dest := 1, source := 0, body := [wanted] }

/-- A signal frame. -/
def sig (dest source : BitVec 4) (n l : Byte) : Frame := { kind := .sig, tag := 0, dest := dest, source := source, body := [n, l] }

/-- A read of the part status record. -/
def statusRead : Frame := cfgRead 3 14 0

/-- A queue of the ready part holds one frame. -/
def ready1 (q : QueueId) : State := { ready with queues := emptyQueues.put q [xfer 0] }

/-- UP-RSP is full. -/
def crowded : State := { quiet with queues := { emptyQueues with upRsp := List.replicate 4 (xfer 0) } }

/-- A frame is held at a receive head. -/
def holding (p : Port) (f : Frame) : State := quiet.setPort p { quiet.port p with head := some f }

/-- Three DELAY steps of 5 fine ticks under CONTINUE. -/
def delays : Plan := { count := 3, steps := Vector.replicate 32 { unusedStep with budget := 5 } }

/-- A set whose plans 0 and 6 are these DELAY steps. -/
def delaySet : ConfigSet := { romSet with plans := (romSet.plans.set 0 delays).set 6 delays }

/-- Plan 0 of that set in its check portion, waiting for `w` with its budget of 5 just over. -/
def waiting (w : Wait) : State :=
  { quiet with
    active := delaySet,
    platform := .checking,
    fine := 5,
    ctx := { releasedContext with slot := some 0, portion := .check, budget := some 5, wait := w } }

/-- The same with the budget one tick short. -/
def waitingStill (w : Wait) : State := { waiting w with fine := 4 }

/-- A domain's record is replaced. -/
def withDom (s : State) (d : DomainId) (r : DomainRuntime) : State := s.setDom d r

/-- The step record of the DELAY steps. -/
def delay5 : Step := { unusedStep with budget := 5 }

theorem quiet_headsEmpty : quiet.HeadsEmpty := ⟨rfl, rfl⟩

theorem waiting_headsEmpty (w : Wait) : (waiting w).HeadsEmpty := ⟨rfl, rfl⟩

theorem waiting_delaysNext (w : Wait) : (waiting w).delaysAt ((waiting w).ctx.index + 1) delay5 :=
  ⟨(by decide +kernel : (delaySet.plans.get 0).step? 1 = some delay5), by decide, by decide, by decide⟩

theorem waiting_budgetOver (w : Wait) : (waiting w).BudgetOver :=
  ⟨5, rfl, (by decide : 5 ≤ ((5 : Tick) - 0).toNat)⟩

theorem waitingStill_budgetRuns (w : Wait) : ¬ (waitingStill w).BudgetOver := by
  rintro ⟨b, hb, h⟩
  cases hb
  exact absurd h (by decide : ¬ 5 ≤ ((4 : Tick) - 0).toNat)

theorem trip_plan_starts_with_delay :
    (delaySet.plans.get 6).step? 0 = some delay5 ∧ delay5.kind = .delay ∧ delay5.unit ≠ .learned ∧ delay5.budget ≠ 0 := by
  decide +kernel

/-- The work comes to a state with both heads empty. -/
def comes (a : Act) : Bool :=
  match quiesce 40 a.2 a.1 with
  | some u => decide (u.up.head = none ∧ u.dn.head = none)
  | none => false

theorem comesTo_of_comes (a : Act) (h : comes a = true) : ∃ u, comesTo a u := by
  unfold comes at h
  split at h
  · next u hu => exact ⟨u, 40, by decide, hu, by simpa [State.HeadsEmpty] using h⟩
  · cases h

/-- What a piece of work gives has this property. -/
def gives (a : Act) (p : State → Bool) : Bool := p a.1

/-! ## Witnesses: the machine's shape -/

theorem test_witness_front_command :
    State.pending { quiet with pending := [.pressEdge, .release] } = [.pressEdge, .release]
      ∧ nextHas (step { quiet with pending := [.pressEdge, .release] })
          (fun t => decide (t.pending = [.release]) && t.button.hold == .idle && t.button.low == false) = false
      ∧ nextHas (step { quiet with pending := [.pressEdge, .release] })
          (fun t => decide (t.pending = [.release]) && t.button.hold == .debouncing) = true := by
  decide +kernel

theorem test_witness_idle_step :
    State.dueCommand (withDom { quiet with fine := 5 } 3 { quiet.dom 3 with hold := some ⟨0, 5⟩ })
        = some (.holdOffExpiry 3)
      ∧ quiet.dueCommand = none ∧ (quiet.fine + 1).toNat % 1024 ≠ 0
      ∧ State.dueCommand { quiet with fine := 1023 } = none ∧ ((1023 : Tick) + 1).toNat % 1024 = 0
      ∧ nextHas (step { quiet with fine := 1023 }) (fun t => t.milli == 1) = true := by decide +kernel

/-- A NOTE that the event made owed is queued, also where a request waits; one owed before it leaves the place to it. -/
theorem test_witness_end_of_event :
    let s : State := { quiet with
      notices := { quiet.notices with owed := true }, queues := { emptyQueues with cfgIn := [cfgRead 3 14 0] } }
    (s.endEvent false).queues.upRsp = [s.noteFrame] ∧ (s.endEvent false).notices.owed = false
      ∧ (s.endEvent true).queues.upRsp = [] ∧ (s.endEvent true).notices.owed = true := by
  decide +kernel

theorem test_witness_transmitters :
    (quiet.port .up).partnerReady = false ∧ ready.up.linkUp = true ∧ ready.up.partnerReady = true ∧ ready.up.sending = none
      ∧ ready.dn.linkUp = true ∧ ready.dn.partnerReady = true ∧ ready.dn.sending = none
      ∧ (∀ q ∈ txQueues .up, quiet.queue q = [])
      ∧ (ready1 .upOwn).queues.upOwn = [xfer 0]
      ∧ (ready1 .upFwdSig).queues.upOwn = [] ∧ (ready1 .upFwdSig).queues.upFwdSig = [xfer 0]
      ∧ (ready1 .upRsp).queues.upFwdSig = [] ∧ (ready1 .upRsp).queues.upRsp = [xfer 0]
      ∧ (ready1 .upBulk).queues.upRsp = [] ∧ (ready1 .upBulk).queues.upBulk = [xfer 0]
      ∧ (ready1 .dnOwn).queues.dnOwn = [xfer 0]
      ∧ (ready1 .dnFwd).queues.dnOwn = [] ∧ (ready1 .dnFwd).queues.dnFwd = [xfer 0] := by decide +kernel

theorem test_witness_auto_on :
    (0x3FE : BitVec 10).getLsbD 0 = false ∧ (0x1FF : BitVec 10).getLsbD 0 = true ∧ (0x1FF : BitVec 10).getLsbD 9 = false
      ∧ nextHas (exec (.powerOnReset .autoOn true true true 0x3FE) quiet)
          (fun t => t.platform == .waking && t.ctx.wait == .pinned) = true
      ∧ nextHas (exec (.powerOnReset .autoOn true true true 0x1FF) quiet)
          (fun t => t.platform == .waking && t.ctx.wait == .good 9 && t.notices.flags == 3) = true := by decide +kernel

/-! ## Witnesses: links -/

theorem test_witness_link_up :
    (quiet.port .up).linkUp = true ∧ (State.reset.port .dn).linkUp = false ∧ State.reset.up.head = none
      ∧ State.reset.dn.head = none := by decide +kernel

/-- DN is DOWN, UP holds `f` at its head, and the queues are `q`. -/
def shut (q : Queues) (f : Frame) : State :=
  { quiet with dn := resetPort, up := { quiet.up with head := some f }, queues := q }

/-- R157, R162: the LINK_UP of DN powers agent 1 and the transfer goes its way; a request that has no place stays. -/
theorem test_witness_link_up_held_frame :
    let full : Queues := { emptyQueues with upRsp := List.replicate 4 (xfer 0) }
    let jam : Queues := { full with cfgIn := List.replicate 4 (cfgRead 4 14 0) }
    let opened : State := (shut jam statusRead).setPort .dn { resetPort with linkUp := true }
    (shut full (xfer 1)).fits ((shut full (xfer 1)).fate .up (xfer 1)) = false
      ∧ nextHas (exec (.linkUp .dn) (shut full (xfer 1)))
          (fun t => decide (t.queues.dnFwd = [xfer 1] ∧ t.up.head = none)) = true
      ∧ opened.fits (opened.fate .up statusRead) = false ∧ opened.Settled := by
  unfold State.Settled; decide +kernel

theorem test_witness_link_down :
    (State.reset.port .up).linkUp = false ∧ (ready.port .up).linkUp = true ∧ ready.ctx.wait = .idle
      ∧ nextHas (exec (.linkDown .up) (ready1 .upRsp)) (fun t => t.up.discards == 1 && !t.up.linkUp) = true
      ∧ (waiting (.space .up 0x20 .asserted)).ctx.wait = .space .up 0x20 .asserted
      ∧ ((waiting (.space .up 0x20 .asserted)).port .up).linkUp = true
      ∧ comes (((waiting (.space .up 0x20 .asserted)).linkGoesDown .up).1.emitStep .up 0x20 .asserted).proceeding = true
      ∧ (waiting (.drain .up)).ctx.wait = .drain .up ∧ comes ((waiting (.drain .up)).linkGoesDown .up).1.proceeding = true
      ∧ nextHas (exec (.linkDown .up) (waiting (.drain .up))) (fun t => t.ctx.index == 1 && t.ctx.wait == .delay) = true := by
  decide +kernel

theorem test_witness_bad_reception :
    (State.reset.port .up).linkUp = false ∧ (quiet.port .up).linkUp = true
      ∧ receivedFrame .up [0x10, 0x0F, 0x02, 0x20, 0x01, 0xA6] = none
      ∧ ((holding .up statusRead).port .up).head ≠ none := by decide +kernel

/-- A held frame that stays, with the input queue full or not, beside the error just counted: the overrun clauses. -/
theorem test_witness_overrun :
    State.Settled (State.notify { holding .up statusRead with
        queues := { emptyQueues with
          upRsp := List.replicate 4 (xfer 0), cfgIn := List.replicate 4 statusRead },
        up := { (holding .up statusRead).up with errors := 1 } } .linkError)
      ∧ State.Settled (State.notify { holding .up (xfer 0) with
        queues := { emptyQueues with dnFwd := List.replicate 8 (xfer 0) },
        up := { (holding .up (xfer 0)).up with errors := 1 } } .linkError)
      ∧ nextHas (exec (.domainStatusRead 3 14 0) { holding .up (xfer 0) with
          queues := { emptyQueues with dnFwd := List.replicate 8 (xfer 0) } })
          (fun t => t.up.errors == 1 && t.queues.upRsp.isEmpty && t.queues.cfgIn.isEmpty) = true := by
  unfold State.Settled; decide +kernel

theorem test_witness_good_frame :
    receivedFrame .up (xfer 0).wire = some (xfer 0) ∧ (xfer 0).kind ≠ .sig
      ∧ quiet.fate .up (xfer 0) = .place .dnFwd (xfer 0) ∧ quiet.fits (quiet.fate .up (xfer 0)) = true
      ∧ nextHas (exec (.frameReceived .up (xfer 0).wire) quiet) (fun t => decide (t.queues.dnFwd = [xfer 0])) = true := by
  decide +kernel

/-- The places the fates of a frame ask for. -/
theorem test_witness_fates_have_places :
    quiet.hasPlace .upRsp = true ∧ quiet.hasPlace .dnOwn = true ∧ quiet.hasPlace .dnFwd = true
      ∧ State.fits { holding .up (xfer 0) with queues := { emptyQueues with dnFwd := List.replicate 8 (xfer 0) } }
          (State.fate { holding .up (xfer 0) with queues := { emptyQueues with dnFwd := List.replicate 8 (xfer 0) } }
            .up (xfer 0)) = false := by decide +kernel

theorem test_witness_routing :
    quiet.agentPowered 1 = true ∧ State.reset.agentPowered 14 = false ∧ (1 : BitVec 4) ≠ 0 ∧ (14 : BitVec 4) ≠ 15
      ∧ (xfer 1).replyWanted = true ∧ (xfer 0).replyWanted = false ∧ quiet.up.linkUp = true
      ∧ State.reset.up.linkUp = false ∧ (14 : BitVec 4).toNat = (13 : Fin 14).val + 1 := by decide +kernel

/-- R144: UP 0/10h is a ROM entry with TRACK and REQUEST; UP 0/FFh is none. -/
theorem test_witness_signal_fates :
    quiet.sigAction .up (sig 1 0 0xFF 1) = .pass ∧ quiet.agentPowered 1 = true ∧ State.reset.agentPowered 1 = false
      ∧ quiet.lookup .up 0 0xFF = none ∧ (quiet.lookup .up 0 0x10).isSome = true
      ∧ State.sigAction { quiet with signals := quiet.signals.set 5 { quiet.signals.get 5 with
          inUse := true, port := .up, agent := 0, signal := 0xFE, action := .drop } } .up (sig 1 0 0xFE 1) = .drop := by
  decide +kernel

/-- Entry 40 tracks UP 0/FEh with no flag. -/
def tracked (t : Bool) : State :=
  { quiet with signals := quiet.signals.set 40 { quiet.signals.get 40 with
      inUse := true, port := .up, agent := 0, signal := 0xFE, track := t, request := none, trip := false,
      veto := false, release := false, wake := none } }

/-- The key of entry 40 is that of no other in-use entry. -/
theorem test_witness_key :
    ((tracked true).signals.get 40).inUse = true
      ∧ ∀ j : Fin 64, ((tracked true).signals.get j).hasKey .up 0 0xFE = true → j = 40 := by decide +kernel

theorem test_witness_unflagged_signal :
    receivedFrame .up (sig 0 0 0xFF 1).wire = some (sig 0 0 0xFF 1) ∧ quiet.lookup .up 0 0xFF = none
      ∧ (tracked true).findSignal .up 0 0xFE = some 40 ∧ ((tracked true).signals.get 40).track = true
      ∧ (tracked false).findSignal .up 0 0xFE = some 40 ∧ ((tracked false).signals.get 40).track = false
      ∧ (tracked true).fits ((tracked true).fate .up (sig 0 0 0xFE 1)) = true
      ∧ nextHas (exec (.frameReceived .up (sig 0 0 0xFE 1).wire) (tracked true))
          (fun t => (t.signals.get 40).level == .asserted) = true := by decide +kernel

/-- Entry 40 tracks DN 3/40h with VETO and WAKE of W15, which is enabled and bound to signals. -/
def flagged (s : State) : State :=
  { s with
    signals := s.signals.set 40 { unusedEntry with
      inUse := true, port := .dn, agent := 3, signal := 0x40, track := true, veto := true, wake := some 15 },
    wakes := s.wakes.set 15 { idleWakeRecord .signal with enabled := true } }

/-- R34, R35, R107, R141: each report at a wait or a record it acts on; VETO comes before WAKE, which finds
RETURNING (log 28). -/
theorem test_witness_reports :
    (waiting (.level .up 0 0x13 .asserted)).ctx.wait = .level .up 0 0x13 .asserted ∧ (waiting .release).ctx.wait = .release
      ∧ (quiet.wakes.get 15).binding = .signal ∧ (quiet.wakes.get 1).binding ≠ .signal
      ∧ (flagged (waiting .delay)).findSignal .dn 3 0x40 = some 40
      ∧ comes (flagged (waiting .delay), [.levelReport .dn 3 0x40 .asserted, .vetoWakeEffect 15 .asserted,
          .carry .consume (sig 0 3 0x40 1)]) = true
      ∧ nextHas (exec (.frameReceived .dn (sig 0 3 0x40 1).wire) (flagged (waiting .delay)))
          (fun t => t.platform == .run && t.lastAbort == some .veto && (t.captures.get 15).platform == some .returning
            && decide (t.queues.upFwdSig = [sig 0 3 0x40 1])) = true
      ∧ nextHas (exec (.frameReceived .up (sig 15 0 0x10 1).wire) { quiet with active := delaySet })
          (fun t => t.platform == .checking && t.requested == .low .suspend && t.ctx.wait == .delay) = true := by
  decide +kernel

theorem test_witness_frame_taken :
    ((holding .up (xfer 0)).port .up).head = some (xfer 0) ∧ ((holding .up (xfer 0)).port .dn).head = none
      ∧ (holding .up (xfer 0)).fits ((holding .up (xfer 0)).fate .up (xfer 0)) = true
      ∧ State.fits { holding .up (xfer 0) with queues := { emptyQueues with dnFwd := List.replicate 8 (xfer 0) } }
          (.place .dnFwd (xfer 0)) = false := by decide +kernel

/-- UP-RSP is full and sends its head at the end of the transmission; a transfer held at UP wants a reply, and a NOTE is
owed or not. -/
def freeing (owed : Bool) : State :=
  { ready with
    agents := ready.agents.set 0 { present := false, powering := none, misses := 0 },
    queues := { emptyQueues with upRsp := List.replicate 4 (xfer 0) },
    up := { ready.up with head := some (xfer 1), sending := some (.upRsp, xfer 0) },
    notices := { ready.notices with owed := owed } }

/-- R157 at an event that frees the place; where a NOTE waits for it too, the model leaves the frame (log 7). -/
theorem test_witness_held_frame :
    State.Settled { holding .up (xfer 0) with queues := { emptyQueues with dnFwd := List.replicate 8 (xfer 0) } }
      ∧ nextHas (exec (.transmissionEnd .up) (freeing false))
          (fun t => decide (t.up.head = none ∧ t.queues.upRsp.length = 4)) = true
      ∧ nextHas (exec (.transmissionEnd .up) (freeing true))
          (fun t => decide (t.up.head = some (xfer 1) ∧ t.queues.upRsp.length = 3 ∧ t.notices.owed = true)) = true := by
  unfold State.Settled; decide +kernel

/-- A read of agent 15 from the segment. -/
def segmentRead : Frame := { kind := .cfgRd, tag := 5, dest := 15, source := 3, body := [14, 0] }

theorem test_witness_denied :
    (holding .dn segmentRead).dn.head = some segmentRead ∧ (holding .dn segmentRead).up.head = none
      ∧ segmentRead.dest = 15 ∧ (List.replicate 7 segmentRead).length < 8
      ∧ nextHas (exec (.frameTaken .dn) { holding .dn segmentRead with
          queues := { emptyQueues with dnOwn := List.replicate 7 segmentRead } })
          (fun t => decide (t.queues.dnOwn.length = 8 ∧ t.dn.head = none)) = true := by decide +kernel

/-- Agent 1 is powered by D7, which is OFF. -/
def unpowered (f : Frame) : State :=
  withDom { holding .up f with agents := (holding .up f).agents.set 0 { present := true, powering := some 7, misses := 255 } }
    7 (resetDomain false)

theorem test_witness_unpowered_agent :
    (unpowered (xfer 1)).up.head = some (xfer 1) ∧ (unpowered (xfer 1)).agentPowered 1 = false
      ∧ (xfer 1).dest.toNat = (0 : Fin 14).val + 1 ∧ (xfer 1).replyWanted = true
      ∧ (unpowered (xfer 0)).up.head = some (xfer 0) ∧ (xfer 0).replyWanted = false
      ∧ (unpowered (sig 1 0 0xFF 1)).lookup .up 0 0xFF = none
      ∧ nextHas (exec (.frameTaken .up) (unpowered (xfer 1)))
          (fun t => t.queues.upRsp.length == 1 && (t.agents.get 0).misses == 255) = true
      ∧ nextHas (exec (.linkDown .dn) (holding .up (xfer 1)))
          (fun t => t.queues.upRsp.length == 1 && (t.agents.get 0).misses == 1 && t.up.head == none) = true := by
  decide +kernel

/-- R190: enabled and clear; enabled and set; disabled. R191 with a place, with none, and at a DOWN port. -/
theorem test_witness_owed_note :
    State.noteReady { quiet with notices := { quiet.notices with owed := true } } = true
      ∧ quiet.notices.owed = false ∧ State.reset.up.linkUp = false ∧ 4 ≤ crowded.queues.upRsp.length
      ∧ nextHas (exec .noteQueued { quiet with notices := { quiet.notices with owed := true } })
          (fun t => t.queues.upRsp.length == 1 && !t.notices.owed) = true
      ∧ (quiet.notify .tripped).notices.owed = true
      ∧ (State.notify { quiet with notices := { quiet.notices with flags := 8 } } .tripped).notices.owed = false
      ∧ (quiet.notify .linkError).notices.owed = false := by decide +kernel

/-! ## Witnesses: sequencer -/

theorem test_witness_emission :
    (quiet.port .up).linkUp = true ∧ quiet.hasPlace (ownQueue .up) = true ∧ (State.reset.port .up).linkUp = false
      ∧ quiet.emitted .up 0x20 ≠ .asserted ∧ (waiting .idle).ctx.portion = .check ∧ (waiting .idle).undo = []
      ∧ UndoRecord.signal .up 0x20 .deasserted ∈ State.undo { quiet with undo := [.signal .up 0x20 .deasserted] } := by
  decide +kernel

/-- Plan 0 in its check portion, whose step 0 is `t`, with D9 in a state of its own. -/
def starting (t : Step) (r : DomainRuntime) : State :=
  withDom { waiting .idle with
    active := { delaySet with plans := delaySet.plans.set 0 { delays with steps := delays.steps.set 0 t } } } 9 r

/-- A step of a kind on a place, with a budget. -/
def stepOf (k : StepKind) (p : DomOrPort) (n : Nat) : Step := { unusedStep with kind := k, place := p, budget := n }

/-- R27, R28: each answer of the controller, the undo record, and the budget of 0. -/
theorem test_witness_domain_requests :
    let on := stepOf .enable (.domain 9) 5
    let off := stepOf .disable (.domain 9) 5
    ((starting on (resetDomain false)).runningPlan.bind fun p => p.step? 0) = some on
      ∧ gives (micro (.start 0) (starting on (quiet.dom 9))) (fun t => t.undo.isEmpty && t.ctx.wait == .idle) = true
      ∧ gives (micro (.start 0) (starting on (resetDomain false)))
          (fun t => (t.dom 9).state == .rising && decide (t.undo = [.domain 9 false])) = true
      ∧ gives (micro (.start 0) { starting on (resetDomain false) with undo := [.domain 9 true] })
          (fun t => (t.dom 9).state == .rising && decide (t.undo = [.domain 9 true])) = true
      ∧ gives (micro (.start 0) (starting on { resetDomain true with state := .fault })) (·.ctx.failMark) = true
      ∧ gives (micro (.start 0) (starting on { resetDomain true with state := .falling })) (·.ctx.wait == .enable 9) = true
      ∧ gives (micro (.start 0) (starting { on with budget := 0 } { resetDomain true with state := .falling }))
          (·.ctx.failMark) = true
      ∧ gives (micro (.start 0) (starting off (quiet.dom 9)))
          (fun t => (t.dom 9).state == .falling && decide (t.undo = [.domain 9 true])) = true
      ∧ gives (micro (.start 0) (starting (stepOf .disable (.domain 2) 5) (quiet.dom 9)))
          (fun t => t.ctx.failMark && (t.dom 2).state == .on) = true
      ∧ gives (micro (.start 0) (starting (stepOf .disable (.domain 0) 5) (quiet.dom 9)))
          (fun t => t.notices.flags.getLsbD 6 && t.undo.isEmpty) = true := by decide +kernel

/-- R29, R30, R100: waiting, over at once, and the learned budget of a domain with no sample. -/
theorem test_witness_domain_waits :
    gives (micro (.start 0) (starting (stepOf .awaitGood (.domain 9) 5) (quiet.dom 9))) (·.ctx.wait == .idle) = true
      ∧ gives (micro (.start 0) (starting { stepOf .awaitGood (.domain 9) 5 with unit := .learned }
            { resetDomain false with state := .rising })) (fun t => t.ctx.wait == .good 9 && t.ctx.budget == some 6250) = true
      ∧ gives (micro (.start 0) (starting (stepOf .awaitGood (.domain 9) 0) (resetDomain false))) (·.ctx.failMark) = true
      ∧ gives (micro (.start 0) (starting (stepOf .awaitGood (.domain 9) 0) { resetDomain false with state := .rising }))
          (fun t => t.ctx.failMark && (t.dom 9).cause == some .timeout) = true
      ∧ gives (micro (.start 0) (starting (stepOf .awaitLow (.domain 9) 5) (resetDomain false))) (·.ctx.wait == .idle) = true
      ∧ gives (micro (.start 0) (starting { stepOf .awaitLow (.domain 9) 5 with unit := .milli } (quiet.dom 9)))
          (fun t => t.ctx.wait == .low 9 && t.ctx.clock == .milli) = true
      ∧ gives (micro (.start 0) (starting (stepOf .awaitLow (.domain 9) 0) (quiet.dom 9))) (·.ctx.failMark) = true
      ∧ gives (micro (.start 0) { starting (stepOf .awaitLow (.domain 9) 5) (resetDomain false) with platform := .parked })
          (·.platform == .checking) = true := by decide +kernel

/-- R31 to R34 at a place that is free, full, busy or idle, and at a GUARD key that is absent, level or not. -/
theorem test_witness_port_steps :
    let full (t : Step) : State := { starting t (quiet.dom 9) with
      queues := { emptyQueues with upOwn := List.replicate 8 (xfer 0) } }
    let level (l : Tracked) (n : Nat) : State :=
      let s := starting { stepOf .guard (.port .up) n with signal := 0x12, level := .asserted } (quiet.dom 9)
      { s with signals := s.signals.set 2 { s.signals.get 2 with level := l } }
    gives (micro (.start 0) (starting (stepOf .emit (.port .up) 5) (quiet.dom 9))) (·.queues.upOwn.length == 1) = true
      ∧ gives (micro (.start 0) (full (stepOf .emit (.port .up) 5))) (·.ctx.wait == .space .up 0 .deasserted) = true
      ∧ gives (micro (.start 0) (full (stepOf .emit (.port .up) 0))) (·.ctx.failMark) = true
      ∧ gives (micro (.start 0) (starting (stepOf .sync (.port .up) 5) (quiet.dom 9))) (·.ctx.wait == .idle) = true
      ∧ gives (micro (.start 0) (full (stepOf .sync (.port .up) 5))) (·.ctx.wait == .drain .up) = true
      ∧ gives (micro (.start 0) (full (stepOf .sync (.port .up) 0))) (·.ctx.failMark) = true
      ∧ gives (micro (.start 0) (starting (stepOf .guard (.port .up) 5) (quiet.dom 9))) (·.ctx.failMark) = true
      ∧ gives (micro (.start 0) (level .asserted 5)) (fun t => t.ctx.wait == .idle && !t.ctx.failMark) = true
      ∧ gives (micro (.start 0) (level .unknown 5)) (·.ctx.wait == .level .up 0 0x12 .asserted) = true
      ∧ gives (micro (.start 0) (level .deasserted 0)) (·.ctx.failMark) = true := by decide +kernel

/-- R35 to R37 at a limit of 0, and at a counter that lasts and one that does not. -/
theorem test_witness_other_steps :
    let plain (k : StepKind) (n : Nat) : State := starting (stepOf k (.domain 0) n) (quiet.dom 9)
    let again (c : Nat) : State :=
      { plain .retry 5 with ctx := { (plain .retry 5).ctx with failMark := true, retries := Vector.replicate 32 c } }
    gives (micro (.start 0) (plain .delay 0)) (·.ctx.wait == .idle) = true
      ∧ gives (micro (.start 0) (plain .park 5)) (fun t => t.platform == .parked && t.ctx.budget == some 5) = true
      ∧ gives (micro (.start 0) (plain .park 0)) (fun t => t.ctx.wait == .release && t.ctx.budget == none) = true
      ∧ gives (micro (.start 0) { plain .commit 5 with undo := [.domain 9 true] })
          (fun t => t.platform == .committing && t.undo.isEmpty) = true
      ∧ gives (micro (.start 0) (plain .retry 5)) (fun t => !t.ctx.failMark) = true
      ∧ gives (micro (.start 0) (again 1)) (fun t => !t.ctx.failMark && t.ctx.retries.get 0 == 0) = true
      ∧ gives (micro (.start 0) (again 0)) (·.ctx.failMark) = true
      ∧ ((plain .delay 5).runningPlan.bind fun p => p.step? 3) = none := by decide +kernel

theorem test_witness_waiting_emit :
    (waiting (.space .up 0x20 .asserted)).ctx.wait = .space .up 0x20 .asserted
      ∧ ((waiting (.space .up 0x20 .asserted)).port .up).linkUp = true
      ∧ (List.replicate 7 (xfer 0)).length < 8 ∧ 8 ≤ (List.replicate 8 (xfer 0)).length ∧ quiet.ctx.wait = .idle
      ∧ nextHas (exec .emitFramePlaced { waiting (.space .up 0x20 .asserted) with
            queues := { emptyQueues with upOwn := List.replicate 7 (xfer 0) } })
          (fun t => t.ctx.wait == .delay && t.queues.upOwn.length == 8 && t.emitted .up 0x20 == .asserted) = true
      ∧ nextHas (exec .emitFramePlaced { waiting (.space .up 0x20 .asserted) with
            queues := { emptyQueues with upOwn := List.replicate 8 (xfer 0) } })
          (fun t => t.ctx.wait == .space .up 0x20 .asserted && t.queues.upOwn.length == 8) = true
      ∧ comes ((waiting (.space .up 0x20 .asserted)).emitStep .up 0x20 .asserted).proceeding = true := by decide +kernel

theorem test_witness_waiting_sync :
    (waiting (.drain .dn)).ctx.wait = .drain .dn ∧ (waiting (.drain .dn)).queue (ownQueue .dn) = []
      ∧ (waiting (.drain .dn)).dn.sending = none ∧ quiet.ctx.wait = .idle
      ∧ nextHas (exec .syncComplete (waiting (.drain .dn))) (fun t => t.ctx.wait == .delay && t.ctx.index == 1) = true
      ∧ nextHas (exec .syncComplete { waiting (.drain .dn) with
            dn := { (waiting (.drain .dn)).dn with sending := some (.dnOwn, xfer 0) } })
          (fun t => t.ctx.wait == .drain .dn) = true
      ∧ comes (waiting (.drain .dn)).proceeding = true := by decide +kernel

theorem test_witness_budget_expiry :
    (waiting .delay).ctx.wait = .delay ∧ (waiting (.enable 3)).currentStep = some delay5 ∧ delay5.action = .cont
      ∧ (waiting (.low 3)).ctx.wait = .low 3 ∧ (waiting .idle).ctx.wait = .idle ∧ (waiting .release).ctx.wait = .release
      ∧ nextHas (exec .budgetExpiry (waiting (.enable 3)))
          (fun t => t.ctx.failMark && t.ctx.wait == .delay && t.notices.flags.getLsbD 13) = true
      ∧ nextHas (exec .budgetExpiry (waitingStill (.enable 3))) (fun t => t.ctx.wait == .enable 3) = true
      ∧ comes (waiting .delay).proceeding = true ∧ comes ((waiting (.enable 3)).failing delay5 0) = true
      ∧ comes (((waiting (.low 3)).timeoutCounted 3).failing delay5 0) = true
      ∧ comes ((waiting (.drain .up)).failing { delay5 with action := .abort } 0) = true
      ∧ comes ((waiting (.drain .up)).failing { delay5 with action := .trip } 0) = true := by
  decide +kernel

/-- An AWAIT_GOOD of D9, RISING, that has no children. -/
def awaiting : State := withDom (waiting (.good 9)) 9 { resetDomain false with state := .rising }

theorem test_witness_await_good :
    awaiting.ctx.wait = .good 9 ∧ (awaiting.dom 9).state = .rising ∧ (awaiting.cfg 9).critical = false
      ∧ (∀ e : DomainId, e ≠ 9 → (awaiting.dom e).state.enabled = true → awaiting.descends 9 10 e = false)
      ∧ holdOffLength (awaiting.cfg 9).holdMin (awaiting.dom 9).fallAvg ≠ 0 ∧ awaiting.currentStep = some delay5
      ∧ nextHas (exec .budgetExpiry awaiting)
          (fun t => (t.dom 9).state == .fault && (t.dom 9).cause == some .timeout && t.ctx.wait == .delay) = true
      ∧ (let f := (awaiting.timeoutCounted 9).faultDomain 9 .timeout
         comes ((f.1.failing delay5 0).1, (f.1.failing delay5 0).2 ++ f.2)) = true := by
  decide +kernel

/-- The DELAY steps with a PARK under a failure action as step 0. -/
def parkPlan (a : FailAction) : Plan := { delays with steps := delays.steps.set 0 { delay5 with kind := .park, action := a } }

/-- PARKED at a PARK step under a failure action, its limit just over. -/
def parked (a : FailAction) : State :=
  { waiting .release with
    platform := .parked,
    active := { delaySet with plans := delaySet.plans.set 0 (parkPlan a) } }

/-- PARKED at a PARK step under ABORT. -/
def parkedAbort : State := parked .abort

theorem test_witness_park_limit :
    (State.currentStep { waiting .release with platform := .parked }) = some delay5
      ∧ parkedAbort.ctx.wait = .release ∧ parkedAbort.platform = .parked ∧ parkedAbort.undo = []
      ∧ (parkedAbort.currentStep.map fun t => (t.action, t.kind)) = some (.abort, .park)
      ∧ (∀ k : ItemId, parkedAbort.applyPending.get k = false) ∧ (waiting .delay).ctx.wait ≠ .release
      ∧ nextHas (exec .parkLimit { waiting .release with platform := .parked })
          (fun t => t.platform == .checking && t.ctx.wait == .delay) = true
      ∧ nextHas (exec .parkLimit parkedAbort) (fun t => t.platform == .run && t.lastAbort == some .parkLimit) = true
      ∧ (parked .trip).trip.first = none ∧ (parked .trip).ctx.slot = some 0
      ∧ nextHas (exec .parkLimit (parked .trip))
          (fun t => t.platform == .tripping && t.trip.first == some (.entryFailed 0) && t.ctx.wait == .delay) = true
      ∧ comes (parkedAbort.failing { delay5 with kind := .park, action := .abort } 0) = true := by
  decide +kernel

/-- A rollback waits to place a signal record. -/
def rollingBack : State :=
  { waiting (.rollbackSpace .dn 0x30 .deasserted) with
    platform := .returning,
    ctx := { (waiting (.rollbackSpace .dn 0x30 .deasserted)).ctx with portion := .rollback } }

theorem test_witness_rollback_signal :
    rollingBack.ctx.wait = .rollbackSpace .dn 0x30 .deasserted ∧ (rollingBack.port .dn).linkUp = true
      ∧ (rollingBack.queue (ownQueue .dn)).length < 8 ∧ rollingBack.ctx.portion = .rollback
      ∧ rollingBack.platform = .returning ∧ rollingBack.undo = []
      ∧ (∀ k : ItemId, rollingBack.applyPending.get k = false) ∧ quiet.ctx.wait = .idle
      ∧ nextHas (exec .rollbackSignalPlaced rollingBack)
          (fun t => t.platform == .run && t.queues.dnOwn.length == 1) = true
      ∧ nextHas (exec .rollbackSignalPlaced { rollingBack with
            queues := { emptyQueues with dnOwn := List.replicate 8 (xfer 0) } })
          (fun t => t.platform == .returning) = true
      ∧ nextHas (exec (.linkDown .dn) rollingBack)
          (fun t => t.platform == .run && decide (t.ctx = releasedContext) && t.emitted .dn 0x30 == .deasserted
            && t.dn.discards == 1) = true
      ∧ comes (State.recordOver ((rollingBack.setQueue .dnOwn [ownSignal 0x30 .deasserted]).setEmitted .dn 0x30 .deasserted))
          = true := by decide +kernel

/-- The rollback with these records, D9 in a state of its own. -/
def undoing (u : List UndoRecord) (r : DomainRuntime) : State :=
  withDom { rollingBack with undo := u, ctx := { rollingBack.ctx with wait := .idle } } 9 r

/-- R50 to R52: each answer to a record, with the learned budgets of no sample and of an average of 0. -/
theorem test_witness_rollback_records :
    let quick (r : DomainRuntime) : DomainRuntime := { r with riseAvg := some 0, fallAvg := some 0 }
    let loose (s : State) : State :=
      { s with active := { s.active with domains := s.active.domains.set 9 { s.cfg 9 with riseMin := 0, fallMin := 0 } } }
    gives (micro .rollback (undoing [.domain 9 true] (quiet.dom 9))) (·.ctx.wait == .idle) = true
      ∧ gives (micro .rollback (undoing [.domain 9 true] (resetDomain false)))
          (fun t => t.ctx.wait == .rollbackGood 9 && t.ctx.budget == some 6250) = true
      ∧ gives (micro .rollback (loose (undoing [.domain 9 true] (quick (resetDomain false)))))
          (fun t => (t.dom 9).cause == some .timeout) = true
      ∧ (micro .rollback (undoing [.domain 9 true] { resetDomain true with state := .fault })).2 = [.tripCause .rollbackFailed]
      ∧ gives (micro .rollback (undoing [.domain 9 true] { resetDomain true with state := .falling }))
          (fun t => t.ctx.wait == .rollbackEnable 9 && t.ctx.budget == none) = true
      ∧ (micro .rollback (undoing [.domain 2 false] (quiet.dom 9))).2 = [.tripCause .rollbackFailed]
      ∧ (micro .rollback (undoing [.domain 9 false] (resetDomain false))).2 = [.rollback]
      ∧ gives (micro .rollback (undoing [.domain 9 false] (quiet.dom 9)))
          (fun t => t.ctx.wait == .rollbackLow 9 && t.ctx.budget == some 31250) = true
      ∧ (micro .rollback (loose (undoing [.domain 9 false] (quick (quiet.dom 9))))).2 = [.tripCause .rollbackFailed]
      ∧ gives (micro .rollback (undoing [.signal .up 0x20 .asserted] (quiet.dom 9))) (·.queues.upOwn.length == 1) = true
      ∧ gives (micro .rollback { undoing [.signal .up 0x20 .asserted] (quiet.dom 9) with
            queues := { emptyQueues with upOwn := List.replicate 8 (xfer 0) } })
          (fun t => t.ctx.wait == .rollbackSpace .up 0x20 .asserted && t.ctx.budget == some 625) = true := by
  decide +kernel

theorem test_witness_rollback_expiry :
    nextHas (exec .rollbackWaitExpiry rollingBack)
        (fun t => t.platform == .tripping && t.trip.first == some .rollbackFailed && t.ctx.wait == .delay) = true
      ∧ rollingBack.active = delaySet ∧ comes rollingBack.recordFails = true
      ∧ comes ((waiting (.rollbackLow 9)).timeoutCounted 9).recordFails = true
      ∧ (waiting (.rollbackGood 9)).BudgetOver
      ∧ (let s := withDom (waiting (.rollbackGood 9)) 9 { resetDomain false with state := .rising }
         let f := (s.timeoutCounted 9).faultDomain 9 .timeout
         comes (f.1.recordFails.1, f.1.recordFails.2 ++ f.2)) = true := by
  refine ⟨?_, ?_, ?_, ?_, waiting_budgetOver _, ?_⟩ <;> decide +kernel

theorem test_witness_trip_cause :
    quiet.platform ≠ .tripping ∧ quiet.platform ≠ .tripped ∧ State.platform { quiet with platform := .tripped } = .tripped
      ∧ (State.takeTrip { quiet with platform := .tripping, ctx := { quiet.ctx with tripTarget := some .softOff } }
          .thermal).1.ctx.tripTarget = some .tripped := by decide +kernel

/-- UP 0/12h, REQUEST OFF, reads this level (R144). -/
def asking (l : Tracked) (s : State) : State :=
  { s with signals := Vector.ofFn fun i =>
      if (s.signals.get i).hasKey .up 0 0x12 then { s.signals.get i with level := l } else s.signals.get i }

theorem test_witness_request :
    quiet.computeRequested = quiet.requested
      ∧ State.requested { quiet with requested := .low .off } ≠ .run
      ∧ State.computeRequested { quiet with requested := .low .off } = .run
      ∧ (asking .asserted quiet).computeRequested = .low .off ∧ (asking .asserted quiet).requested ≠ .low .off
      ∧ ((asking .asserted quiet).requestEffect).1.platform = .checking := by decide +kernel

theorem test_witness_entry_and_exit_starts :
    quiet.platform = .run ∧ quiet.vetoed = false ∧ entrySlot .off = 2
      ∧ State.vetoed { quiet with signals := quiet.signals.set 63 { quiet.signals.get 63 with
          inUse := true, veto := true, track := true, level := .asserted } } = true
      ∧ quiet.pinnedRising = false
      ∧ gives (State.startExit { quiet with platform := .tripped } .hub)
          (fun t => t.ctx.slot == some 5 && t.ctx.wait == .idle && t.indicator.leadIn) = true
      ∧ gives (State.startExit (withDom { quiet with platform := .suspended } 0 { resetDomain false with state := .rising }) .hub)
          (fun t => t.ctx.slot == some 3 && t.ctx.wait == .pinned) = true
      ∧ (waiting .delay).platform = .checking ∧ parkedAbort.platform = .parked := by decide +kernel

theorem test_witness_plan_completion :
    (∀ k : ItemId, quiet.applyPending.get k = false)
      ∧ State.pendingWake { quiet with ctx := { quiet.ctx with portion := .commit }, pendingWake := some .hub } = some .hub
      ∧ quiet.pendingRequest = false ∧ quiet.requested = .run
      ∧ (State.completePlan { quiet with
            platform := .waking, ctx := { quiet.ctx with portion := .exit }, pendingRequest := true,
            requested := .low .off }).1.platform = .checking
      ∧ (State.completePlan { quiet with ctx := { quiet.ctx with portion := .commit, slot := some 1 } }).1.platform
          = .hibernated
      ∧ (State.completePlan { quiet with ctx := { quiet.ctx with portion := .trip, tripTarget := some .softOff } }).1.platform
          = .softOff := by decide +kernel

/-- R173: every item marked, with plans 0 and 6 staged as DELAY steps: plan 0 has no COMMIT and is refused, plan 6 is
copied; the domain set is the ROM's. Then the trip plan's completion enters SOFT_OFF. -/
theorem test_witness_applied_at_completion :
    let s : State := { quiet with
      platform := .tripping, staged := delaySet, applyPending := Vector.replicate 8 true,
      ctx := { quiet.ctx with portion := .trip, slot := some 6, tripTarget := some .softOff } }
    gives s.completePlan (fun t =>
      t.platform == .softOff && t.applyStatus.get 0 == .rejShape && t.applyStatus.get 6 == .success
        && t.applyStatus.get 7 == .success && (t.active.plans.get 6).count == 3
        && decide (t.applyPending = Vector.replicate 8 false) && t.notices.flags.getLsbD 10 && t.indicator.leadIn) = true
      ∧ s.applyPending.get 7 = true ∧ s.finalSweep.1.judgeDomainSet s.staged.domains = .success := by decide +kernel

/-! ## Witnesses: domain controller -/

/-- D9 of the quiet part, whose record is replaced; D9 has no children. -/
def nine (fine : Tick) (r : DomainRuntime) : State := withDom { quiet with fine := fine } 9 r

/-- R97 at the edges of the ROM rise window, 63 to 6,250. -/
theorem test_witness_pg_rise :
    quiet.ctx.wait = .idle ∧ (quiet.dom 9).pg = true
      ∧ (∀ c : DomainId, quiet.isChild 9 c = true → (quiet.cfg c).pinned = false)
      ∧ nextHas (exec (.pgRise 9) (nine 63 { resetDomain false with state := .rising }))
          (fun t => (t.dom 9).lastRise == some ⟨63, .ok⟩ && (t.dom 9).state == .on && (t.dom 9).riseAvg == some 252) = true
      ∧ nextHas (exec (.pgRise 9) (nine 62 { resetDomain false with state := .rising }))
          (fun t => (t.dom 9).lastRise == some ⟨62, .fast⟩ && (t.dom 9).riseAvg == none) = true
      ∧ nextHas (exec (.pgRise 9) (nine 6251 { resetDomain false with state := .rising }))
          (fun t => (t.dom 9).lastRise == some ⟨6251, .slow⟩) = true
      ∧ comes (State.proceeding (waiting (.good 9))) = true ∧ comes (State.recordOver (waiting (.rollbackGood 9))) = true
      ∧ comes ((waiting .pinned).setWait .idle, [.start 0]) = true
      ∧ nextHas (exec (.pgRise 9) awaiting) (fun t => t.ctx.index == 1 && (t.dom 9).state == .on) = true
      ∧ nextHas (exec (.pgRise 9) (nine 0 (resetDomain false))) (fun t => (t.dom 9).stray) = true
      ∧ nextHas (exec (.pgRise 9) { nine 0 (resetDomain false) with
            active := { romSet with domains := romDomains.set 9 { romDomains.get 9 with present := false } } })
          (fun t => (t.dom 9).pg && !(t.dom 9).stray) = true := by decide +kernel

theorem test_witness_pg_fall :
    (quiet.cfg 9).present = true ∧ (quiet.cfg 9).pinned = false ∧ ((resetDomain false).pg = false)
      ∧ nextHas (exec (.pgFall 9) (nine 31250 { resetDomain true with state := .falling }))
          (fun t => (t.dom 9).lastFall == some ⟨31250, .ok⟩ && (t.dom 9).state == .off
            && (t.dom 9).hold == some ⟨31250, 23438⟩) = true
      ∧ nextHas (exec (.pgFall 9) (nine 31251 { resetDomain true with state := .falling }))
          (fun t => (t.dom 9).lastFall == some ⟨31251, .slow⟩ && (t.dom 9).hold == some ⟨31251, 3125⟩) = true
      ∧ nextHas (exec (.pgFall 9) (nine 0 (resetDomain true))) (fun t => !(t.dom 9).pg && (t.dom 9).state == .off) = true
      ∧ nextHas (exec (.pgFall 9) (withDom (waiting (.low 9)) 9 { resetDomain true with state := .falling }))
          (fun t => t.ctx.index == 1 && (t.dom 9).state == .off) = true := by
  decide +kernel

/-- D8 is pinned under D9, OFF with its power-good low. -/
def nested : ConfigSet :=
  { romSet with domains := romDomains.set 8 { romDomains.get 8 with parent := some 9, pinned := true, present := true } }

/-- R82 at the arrival of D9 at ON, by its power-good and at an enable; a child still in its hold-off is left, and the
wait for pinned domains goes on while the child rises. -/
theorem test_witness_pinned_child :
    let s (w : Wait) (r8 r9 : DomainRuntime) : State :=
      withDom (withDom { waiting w with active := nested } 8 r8) 9 r9
    let up : DomainRuntime := { resetDomain false with state := .rising }
    nextHas (exec (.pgRise 9) (s .idle (resetDomain false) up))
        (fun t => (t.dom 9).state == .on && (t.dom 8).state == .rising && (t.dom 8).rampStart == 5) = true
      ∧ nextHas (exec (.pgRise 9) (s .idle { resetDomain false with hold := some ⟨0, 9⟩ } up))
          (fun t => (t.dom 8).state == .off) = true
      ∧ nextHas (exec (.pgRise 9) (s .pinned (resetDomain false) up)) (fun t => t.ctx.wait == .pinned) = true
      ∧ gives ((s .idle (resetDomain false) (resetDomain true)).enableEffect 9 .accepted)
          (fun t => (t.dom 9).state == .on && (t.dom 8).state == .rising) = true := by decide +kernel

/-- R82 at a falling power-good of D0 in FAULT: due with its hold-off idle, left while it runs. -/
theorem test_witness_pinned_fall :
    let s (h : Option HoldOff) : State := withDom quiet 0 { resetDomain true with state := .fault, hold := h }
    nextHas (exec (.pgFall 0) (s none)) (fun t => (t.dom 0).state == .rising) = true
      ∧ nextHas (exec (.pgFall 0) (s (some ⟨0, 1⟩))) (fun t => (t.dom 0).state == .fault && !(t.dom 0).pg) = true := by
  decide +kernel

/-- R30, R68, R74 with a hold-off of length 0: the request that D9's fall deferred is accepted in the event of the fall,
and the AWAIT_LOW after it waits on a RISING domain (log 13). -/
theorem test_zero_hold_off_leaves_no_report :
    let await : Plan := { delays with steps := delays.steps.set 1 { delay5 with kind := .awaitLow, place := .domain 9 } }
    let sets : ConfigSet :=
      { delaySet with
        plans := delaySet.plans.set 0 await,
        domains := romDomains.set 9 { romDomains.get 9 with holdMin := 0 } }
    nextHas (exec (.pgFall 9) (withDom { waiting (.enable 9) with active := sets } 9
        { resetDomain true with state := .falling, rampStart := 5 }))
      (fun t => (t.dom 9).state == .rising && (t.dom 9).hold == none && t.ctx.index == 1 && t.ctx.wait == .low 9) = true := by
  decide +kernel

theorem test_witness_pg_lost :
    (quiet.dom 9).state = .on ∧ (quiet.cfg 9).critical = false
      ∧ (∀ e : DomainId, e ≠ 9 → (quiet.dom e).state.enabled = true → quiet.descends 9 10 e = false)
      ∧ holdOffLength (quiet.cfg 9).holdMin (quiet.dom 9).fallAvg ≠ 0
      ∧ nextHas (exec (.pgFall 9) quiet) (fun t => (t.dom 9).cause == some .pgLost && t.platform == .run) = true := by
  decide +kernel

/-- D4 is critical; its one child D8 is OFF. -/
def critical : State := withDom { quiet with active := delaySet } 8 (resetDomain false)

theorem test_witness_critical_fault :
    (critical.dom 4).state = .on ∧ (critical.cfg 4).critical = true ∧ critical.platform = .run
      ∧ (∀ e : DomainId, e ≠ 4 → (critical.dom e).state.enabled = true → critical.descends 4 10 e = false)
      ∧ nextHas (exec (.pgFall 4) critical)
          (fun t => t.platform == .tripping && t.trip.first == some (.criticalFault 4) && t.ctx.wait == .delay) = true
      ∧ comes (critical.takeTrip (.criticalFault 4)) = true := by
  decide +kernel

theorem test_witness_controller_expiries :
    (resetDomain false).hold = none ∧ (quiet.cfg 0).pinned = true ∧ (quiet.cfg 0).parent = none ∧ (quiet.cfg 9).pinned = false
      ∧ nextHas (exec (.holdOffExpiry 9) (withDom (waiting (.enable 9)) 9 { resetDomain false with hold := some ⟨0, 5⟩ }))
          (fun t => (t.dom 9).state == .rising && t.ctx.index == 1 && t.ctx.wait == .delay) = true
      ∧ nextHas (exec (.holdOffExpiry 9)
            (withDom (waiting (.enable 9)) 9 { resetDomain true with state := .fault, hold := some ⟨0, 5⟩ }))
          (fun t => t.ctx.failMark) = true
      ∧ nextHas (exec (.holdOffExpiry 9) (withDom (waiting (.rollbackEnable 9)) 9 { resetDomain false with hold := some ⟨0, 5⟩ }))
          (fun t => t.ctx.wait == .rollbackGood 9 && t.ctx.startTick == 5) = true
      ∧ nextHas (exec (.holdOffExpiry 9) (withDom (waiting (.enable 9)) 9
            { resetDomain true with state := .falling, hold := some ⟨0, 5⟩ })) (fun t => t.ctx.wait == .enable 9) = true
      ∧ nextHas (exec (.overrangeExpiry 0) (withDom { waiting .pinned with fine := 65535 } 0
            { resetDomain false with state := .rising })) (fun t => (t.dom 0).overrange && t.ctx.wait == .delay) = true
      ∧ nextHas (exec (.overrangeExpiry 9) (withDom { waiting (.rollbackEnable 9) with fine := 65535 } 9
            { resetDomain true with state := .falling })) (fun t => t.trip.first == some .rollbackFailed) = true
      ∧ nextHas (exec (.holdOffExpiry 9) (nine 5 { resetDomain false with hold := some ⟨0, 5⟩ }))
          (fun t => (t.dom 9).hold == none) = true
      ∧ nextHas (exec (.holdOffExpiry 9) (nine 4 { resetDomain false with hold := some ⟨0, 5⟩ }))
          (fun t => (t.dom 9).hold != none) = true
      ∧ nextHas (exec (.holdOffExpiry 0) (withDom { quiet with fine := 5 } 0 { resetDomain false with hold := some ⟨0, 5⟩ }))
          (fun t => (t.dom 0).state == .rising && (t.dom 0).rampStart == 5) = true
      ∧ nextHas (exec (.overrangeExpiry 9) (nine 65535 { resetDomain false with state := .rising }))
          (fun t => (t.dom 9).overrange) = true
      ∧ nextHas (exec (.overrangeExpiry 9) (nine 65534 { resetDomain false with state := .rising }))
          (fun t => !(t.dom 9).overrange) = true := by decide +kernel

theorem test_witness_enable_and_disable :
    quiet.judgeEnable 9 = .accepted ∧ (nine 0 { resetDomain false with hold := some ⟨0, 5⟩ }).judgeEnable 9 = .deferred
      ∧ (quiet.cfg 0).pinned = true ∧ quiet.childActive 2 = true ∧ quiet.childActive 9 = false
      ∧ (nine 0 { resetDomain true with state := .fault }).judgeEnable 9 = .stillPowered
      ∧ ((nine 0 { resetDomain true with state := .fault }).disableEffect 9).1.queues = quiet.queues
      ∧ (((nine 0 { resetDomain true with state := .fault }).disableEffect 9).1.dom 9).state = .falling := by
  decide +kernel

theorem test_witness_cascade_and_sweep :
    quiet.descends 2 10 8 = true ∧ quiet.descends 2 10 9 = false ∧ (quiet.dom 8).state.enabled = true
      ∧ ((quiet.faultDomain 2 .pgLost).1.dom 8).cause = some .parentLost
      ∧ (quiet.finalSweep.1.dom 8).state = .falling ∧ (quiet.finalSweep.1.dom 0).state = .on
      ∧ ((nine 9 { resetDomain false with state := .rising, rampStart := 4 }).finalSweep.1.dom 9).state = .off
      ∧ ((nine 9 { resetDomain false with state := .rising, rampStart := 4 }).finalSweep.1.dom 9).rampStart = 4 := by
  decide +kernel

theorem test_witness_domains_sound : quiet.DomainsSound := by
  unfold State.DomainsSound; decide +kernel

/-- The copy clause at the ROM set over itself; the fault clause at an ON domain. -/
theorem test_witness_domain_set : quiet.judgeDomainSet romDomains = .success ∧ (quiet.dom 2).state.enabled = true := by
  decide +kernel

theorem test_witness_learned_window :
    (63 : Nat) ≤ 6250 ∧ 63 ≤ (3 * 168 + 7) / 8 ∧ (3 * 168 + 7) / 8 ≤ 6250 ∧ learnedBudget (some 168) 63 6250 = 63
      ∧ (63 : Nat) ≤ 6250 ∧ 4 * 63 ≤ 252 ∧ updateAvg (some 252) 6250 = 6439 := by decide

/-! ## Witnesses: wake unit, button, indicator -/

/-- A platform state in which W0 is armed, with the slot of the running entry. -/
def at_ (p : PlatformState) (slot : Option SlotId) : State :=
  { quiet with platform := p, ctx := { quiet.ctx with slot := slot } }

theorem test_witness_arrival :
    (quiet.wakes.get 0).enabled = true ∧ (quiet.wakes.get 1).enabled = false
      ∧ (at_ .tripped none).judgeArrival 0 = .woke ∧ (at_ .suspended none).judgeArrival 0 = .woke
      ∧ (at_ .checking (some 2)).judgeArrival 0 = .aborted ∧ (at_ .committing (some 0)).judgeArrival 0 = .pended
      ∧ State.judgeArrival { at_ .committing (some 0) with pendingWake := some .hub } 0 = .none
      ∧ quiet.judgeArrival 0 = .none
      ∧ (State.capture { quiet with captures := quiet.captures.set 0 ⟨true, 255, true, 0, none, .none⟩ }
          0 .none).captures.get 0 = ⟨true, 255, true, 0, some .run, .none⟩ := by decide +kernel

/-- W1 enabled on WAKEA and armed in SOFT_OFF; every other source is bound elsewhere. -/
def lined (p : PlatformState) : State :=
  { quiet with
    platform := p,
    wakes := quiet.wakes.set 1 { enabled := true, binding := .lineA, arm := 4, abortFlag := false, needs := none } }

theorem test_witness_wake_line :
    quiet.line .a = false ∧ State.line { quiet with wakeA := true } .a = true
      ∧ (∀ n : SourceId, (quiet.wakes.get n).binding = .lineA → (quiet.wakes.get n).enabled = false)
      ∧ ((lined .run).wakes.get 1).binding = lineBinding .a
      ∧ (∀ m : SourceId, m ≠ 1 → ((lined .run).wakes.get m).binding ≠ .lineA)
      ∧ (lined .run).judgeArrival 1 = .none ∧ (lined .softOff).judgeArrival 1 = .woke
      ∧ nextHas (exec (.wakeLineAssertion .a)
            (withDom (lined .softOff) 0 { resetDomain false with state := .rising }))
          (fun t => t.platform == .waking && t.ctx.wait == .pinned && t.wakeCause == some (.source 1)) = true
      ∧ comes (((lined .run).setLine .a true).arrivals [1, 2]) = true := by
  decide +kernel

/-- W1 and W6 both armed on WAKEA in SOFT_OFF, and plan 5 three DELAY steps that complete at once. -/
def twoLined : State :=
  { lined .softOff with
    wakes := (lined .softOff).wakes.set 6 { enabled := true, binding := .lineA, arm := 4, abortFlag := false, needs := none },
    active := { romSet with plans := romSet.plans.set 5 { delays with steps := Vector.replicate 32 unusedStep } } }

/-- R106's example, with a plan that ends in RUN within the event (log 30). -/
theorem test_witness_two_sources :
    twoLined.judgeArrival 1 = .woke ∧ (twoLined.wakes.get 1).enabled = true ∧ (twoLined.wakes.get 6).enabled = true
      ∧ nextHas (exec (.wakeLineAssertion .a) twoLined)
          (fun t => t.platform == .run && t.wakeCause == some (.source 1) && (t.captures.get 1).effect == .woke
            && (t.captures.get 6).effect == .none && (t.captures.get 6).platform == some .waking) = true := by
  decide +kernel

/-- The button in a hold, `n` milli ticks after its press edge. -/
def held (p : PlatformState) (h : HoldState) (n : Tick) (mark : Bool) : State :=
  { quiet with platform := p, active := delaySet, milli := n, button := { resetButton true with hold := h, hubMark := mark } }

/-- R122, R125 at the debounce time 2 and the override time 244. -/
theorem test_witness_button :
    quiet.button.low = false ∧ quiet.button.hold = .idle
      ∧ nextHas (exec .debounceExpiry (held .run .debouncing 2 false))
          (fun t => t.button.hold == .held && t.button.hubMark && t.queues.upOwn.length == 1) = true
      ∧ nextHas (exec .debounceExpiry (held .run .debouncing 1 false)) (fun t => t.button.hold == .debouncing) = true
      ∧ nextHas (exec .debounceExpiry (held .waking .debouncing 2 false))
          (fun t => (t.captures.get 0).count == 1 && (t.captures.get 0).effect == .none) = true
      ∧ nextHas (exec .release (held .run .held 3 true))
          (fun t => t.button.hold == .idle && !t.button.hubMark && t.queues.upOwn.length == 1) = true
      ∧ nextHas (exec .release { held .run .held 3 true with up := resetPort }) (fun t => t.up.discards == 1) = true
      ∧ nextHas (exec .overrideExpiry (held .softOff .held 244 false)) (fun t => t.platform == .softOff) = true
      ∧ nextHas (exec .overrideExpiry (held .tripped .held 244 false)) (fun t => t.trip.first == some .override) = true
      ∧ nextHas (exec .overrideExpiry (held .run .held 244 false))
          (fun t => t.platform == .tripping && t.ctx.tripTarget == some .softOff && t.ctx.wait == .delay) = true
      ∧ nextHas (exec .overrideExpiry (held .run .held 243 false)) (fun t => t.button.hold == .held) = true
      ∧ comes ((held .run .overridden 244 false).takeTrip .override) = true := by
  decide +kernel

/-- R123: a press recognized in a rest state, in an entry, while it commits, and in RUN with UP-OWN full. -/
theorem test_witness_press_by_state :
    let press (p : PlatformState) (k : Option SlotId) : State :=
      { held p .debouncing 2 false with ctx := { releasedContext with slot := k, portion := .check } }
    nextHas (exec .debounceExpiry (withDom (press .suspended none) 0 { resetDomain false with state := .rising }))
        (fun t => t.platform == .waking && t.wakeCause == some (.source 0) && t.ctx.wait == .pinned) = true
      ∧ State.pinnedRising (withDom (press .suspended none) 0 { resetDomain false with state := .rising }) = true
      ∧ nextHas (exec .debounceExpiry (press .checking (some 0)))
          (fun t => t.platform == .run && t.lastAbort == some (.wake 0)) = true
      ∧ comes ((press .parked (some 2)).arrival 0) = true
      ∧ nextHas (exec .debounceExpiry (press .committing (some 1))) (fun t => t.pendingWake == some (.source 0)) = true
      ∧ nextHas (exec .debounceExpiry { press .run none with queues := { emptyQueues with upOwn := List.replicate 8 (xfer 0) } })
          (fun t => t.up.discards == 1 && !t.button.hubMark) = true := by decide +kernel

/-- P1, BLINK of period 122 and on-time 61, at its wrap and at the end of its on-time. -/
def blinking (phase : Nat) (lead : Bool) : State :=
  { quiet with platform := .suspended, indicator := { quiet.indicator with phase := phase, leadIn := lead } }

theorem test_witness_indicator :
    (blinking 0 true).indOut = false ∧ (blinking 60 false).indOut = true ∧ (blinking 61 false).indOut = false
      ∧ State.indOut { quiet with indicator := { quiet.indicator with leadIn := false } } = true
      ∧ nextHas (exec .indicatorPhaseAdvance (blinking 120 false)) (fun t => t.indicator.phase == 121) = true
      ∧ nextHas (exec .indicatorPhaseAdvance (blinking 121 false)) (fun t => t.indicator.phase == 0) = true
      ∧ nextHas (exec .indicatorPhaseAdvance (blinking 0 true)) (fun t => !t.indicator.leadIn) = true := by decide +kernel

/-! ## Witnesses: configuration -/

theorem test_witness_config_ready : quiet.ConfigReady ∧ State.reset.ConfigReady := by
  unfold State.ConfigReady State.HeadsEmpty; decide +kernel

theorem test_witness_request_waits :
    statusRead.wf = true ∧ crowded.queues.cfgIn.head? ≠ some statusRead ∧ crowded.queues.cfgIn.length < 4
      ∧ (cfgWrite 0 9 0 0 (List.replicate 29 0)).wf = false
      ∧ nextHas (exec (.domainStatusRead 3 14 0) crowded) (fun t => decide (t.queues.cfgIn = [statusRead])) = true
      ∧ (let s : State := { crowded with
            queues := { crowded.queues with cfgIn := List.replicate 4 (cfgRead 4 14 0) },
            up := { crowded.up with head := some statusRead } }
         s.chooseBoth = s ∧ s.headFits .up = false ∧ s.headFits .dn = false ∧ s.noteReady = false)
      ∧ nextHas (exec (.signalTableWrite 0 9 0 (List.replicate 29 0)) quiet) (fun t => t.up.errors == 1) = true
      ∧ nextHas (exec (.signalTableWrite 0 9 0 (List.replicate 29 0)) State.reset) (fun t => t.up.errors == 0) = true := by
  decide +kernel

/-- The input queue holds `l`, with UP-RSP empty. -/
def queued (l : List Frame) : State := { quiet with queues := { emptyQueues with cfgIn := l } }

/-- R182: the head of the queue is executed and answered, by its own request, by one that joins behind it, by one that
finds the queue full, and, with no command waiting, by the block itself. -/
theorem test_witness_queued_request :
    let other := cfgRead 4 14 0
    let answers (t : State) : List (BitVec 4) := t.queues.upRsp.map fun r => r.tag
    nextHas (exec (.domainStatusRead 3 14 0) (queued [statusRead, other]))
        (fun t => decide (t.queues.cfgIn = [other] ∧ answers t = [3])) = true
      ∧ nextHas (exec (.domainStatusRead 3 14 0) (queued [other]))
          (fun t => decide (t.queues.cfgIn = [statusRead] ∧ answers t = [4])) = true
      ∧ nextHas (exec (.domainStatusRead 3 14 0) (queued (List.replicate 4 other)))
          (fun t => decide (t.queues.cfgIn = [other, other, other, statusRead] ∧ answers t = [4])) = true
      ∧ (queued [statusRead]).dueDomain = none ∧ (queued [statusRead]).dueSequencer = none
      ∧ (queued [statusRead]).dueButton = none
      ∧ nextHas (step (queued [statusRead])) (fun t => decide (t.queues.cfgIn = [] ∧ answers t = [3])) = true
      ∧ nextHas (exec (.domainStatusRead 3 14 0) { queued [statusRead] with up := resetPort })
          (fun t => decide (t.queues.cfgIn = [] ∧ answers t = [] ∧ t.up.discards = 1)) = true := by decide +kernel

/-- R183 at the last table and just past it, and at the edges of an index range. -/
theorem test_witness_check_order :
    14 < (15 : Byte).toNat ∧ indexInRange 9 64 = false ∧ indexInRange 9 63 = true ∧ indexInRange 12 0 = false
      ∧ indexInRange 14 0 = true ∧ indexInRange 2 223 = true ∧ indexInRange 2 224 = false
      ∧ valuesFit (List.replicate 28 0) = true ∧ selection 8 2 [0, 0] = none := by decide +kernel

/-- R192: a read of the part status record: tag 3, 29 bytes after the three of the header, RUN with all marks clear.
R177, R179: the record of D3, and
step 0 of plan 0. -/
theorem test_status_read :
    nextHas (exec (.domainStatusRead 3 14 0) quiet)
      (fun t => decide ((t.queues.upRsp.map fun f => (f.tag, f.dest, f.source, f.body.length, f.body.take 8))
        = [(3, 0, 15, 32, [0, 14, 0, 0, 255, 0, 0, 0xC0])])) = true
      ∧ indexInRange 2 223 = true ∧ indexInRange 2 224 = false ∧ indexInRange 9 63 = true
      ∧ quiet.readBytes 6 3 = some [1, 2, 0, 1, 0, 63, 0x18, 0x6A, 0, 0, 0x7A, 0x12, 0x0C, 0x35]
      ∧ quiet.readBytes 4 0 = some [5, 0, 0, 11, 1, 0x30, 0, 0x02, 0x71, 0, 1, 0] := by decide +kernel

theorem test_witness_commands :
    (0x7FFF : BitVec 16).getLsbD 15 = false ∧ (0x8000 : BitVec 16).getLsbD 15 = true
      ∧ (0xFF : BitVec 16).toNat < 256 ∧ 256 ≤ (0x100 : BitVec 16).toNat ∧ quiet.platform.planRunning = false
      ∧ PlatformState.planRunning .checking = true
      ∧ nextHas (exec (.applyNow 0 0x80) quiet)
          (fun t => t.applyStatus.get 7 == .success && t.applyStatus.get 0 == .none && t.notices.flags.getLsbD 10) = true := by
  decide +kernel

/-- R167, R168: each class that rejects, and the domain set and the plans that pass. -/
theorem test_witness_judgements :
    let withD9 (c : DomainConfig) : Vector DomainConfig 10 := romDomains.set 9 c
    let c9 := romDomains.get 9
    let plan (t : Step) : Plan := { count := 1, steps := Vector.replicate 32 t }
    quiet.judgeDomainSet (withD9 { c9 with parent := some 9 }) = .rejDomainGraph
      ∧ quiet.judgeDomainSet (withD9 { c9 with present := false }) = .rejReference
      ∧ State.judgeDomainSet { quiet with active := { romSet with plans := Vector.replicate 7 (plan unusedStep) } }
          (withD9 { c9 with present := false }) = .rejLive
      ∧ quiet.judgeDomainSet (withD9 { c9 with parent := some 1 }) = .success
      ∧ quiet.judgePlan 6 { plan unusedStep with count := 0 } = .rejEmpty
      ∧ quiet.judgePlan 6 (plan (stepOf .enable (.domain 9) 5)) = .rejShape
      ∧ quiet.judgePlan 6 (plan (stepOf .disable (.port .up) 5)) = .rejReference
      ∧ quiet.judgePlan 6 (plan (stepOf .disable (.domain 9) 5)) = .success := by decide +kernel

/-- R84, R82, R99: a domain removed from FAULT, one that becomes pinned and is due, and a changed window. -/
theorem test_witness_copied_set :
    let bare : State := { quiet with active := { romSet with plans := Vector.replicate 7 { count := 1, steps := Vector.replicate 32 unusedStep } } }
    let gone := romDomains.set 9 { romDomains.get 9 with present := false }
    let due := romDomains.set 9 { romDomains.get 9 with pinned := true, riseMax := 6249 }
    let faulted := withDom bare 9 { resetDomain true with state := .fault }
    let low := withDom bare 9 { resetDomain false with riseAvg := some 252, fallAvg := some 252 }
    faulted.judgeDomainSet gone = .success ∧ ((faulted.copyDomainSet gone).dom 9).state = .off
      ∧ ((faulted.copyDomainSet gone).dom 9).change = true
      ∧ low.judgeDomainSet due = .success ∧ ((low.copyDomainSet due).dom 9).state = .rising
      ∧ ((low.copyDomainSet due).dom 9).riseAvg = none ∧ ((low.copyDomainSet due).dom 9).fallAvg = some 252 := by
  decide +kernel

/-- R166 at the edges: 32 and 33 steps, and a budget of 60,000 and 60,001 fine ticks. -/
theorem test_witness_staged :
    (32 : Byte).toNat ≤ 32 ∧ 32 < (33 : Byte).toNat ∧ Step.wf { unusedStep with budget := 60000 } = true
      ∧ Step.wf { unusedStep with budget := 60001 } = false ∧ (romDomains.get 3).wf = true
      ∧ DomainConfig.wf { romDomains.get 3 with riseMin := 6251 } = false
      ∧ ((quiet.staged.plans.get 6).steps.get 31).wf = true
      ∧ nextHas (exec (.stagedWrite 0 .planHeader 6 1 [33]) quiet)
          (fun t => decide (t.queues.upRsp.map (·.body) = [[3, 1, 6]])) = true := by decide +kernel

/-- An entry for UP 0/10h, the key of a ROM entry. -/
def twin : SignalEntry := { quiet.signals.get 0 with wake := none }

theorem test_witness_signal_write :
    twin.wake ≠ some 0 ∧ twin.wf = true ∧ twin.inUse = true ∧ (quiet.signals.get 0).inUse = true
      ∧ SignalEntry.wf { twin with agent := 15 } = false ∧ (0x1000 : BitVec 16).getLsbD 12 = true
      ∧ nextHas (exec (.signalTableWrite 0 63 0xFFF ((twin.fields.take 12).map (BitVec.ofNat 8))) quiet)
          (fun t => decide (t.queues.upRsp.map (·.body) = [[4, 9, 63]])) = true
      ∧ nextHas (exec (.signalTableWrite 0 63 0xFFF (((SignalEntry.fields { twin with inUse := false }).take 12).map
            (BitVec.ofNat 8))) quiet)
          (fun t => decide (t.queues.upRsp.map (·.body) = [[0, 9, 63]])) = true := by decide +kernel

/-- R132, R134: partial writes that pass, break a test, or change the key. -/
theorem test_witness_signal_write_in_part :
    (quiet.signals.get 0).wake ≠ some 0
      ∧ nextHas (exec (.signalTableWrite 0 0 0x40 [0]) quiet) (fun t => decide (t.queues.upRsp.map (·.body) = [[3, 9, 0]])) = true
      ∧ nextHas (exec (.signalTableWrite 0 0 0xC [14, 0x77]) (asking .asserted quiet))
          (fun t => (t.signals.get 0).signal == 0x77 && (t.signals.get 0).level == .unknown) = true
      ∧ nextHas (exec (.signalTableWrite 0 2 1 [1]) (asking .asserted quiet))
          (fun t => (t.signals.get 2).level == .asserted) = true := by decide +kernel

theorem test_witness_wake_write :
    quiet.ButtonSourceFixed ∧ (lined .run).wakes.get 1 ≠ quiet.wakes.get 1
      ∧ nextHas (exec (.wakeTableWrite 0 15 2 [3]) quiet)
          (fun t => decide (t.queues.upRsp.map (·.body) = [[3, 10, 15]])) = true
      ∧ nextHas (exec (.wakeTableWrite 0 0 2 [3]) quiet)
          (fun t => decide (t.queues.upRsp.map (·.body) = [[0, 10, 0]])) = true
      ∧ nextHas (exec (.wakeTableWrite 0 0 1 [0]) quiet)
          (fun t => decide (t.queues.upRsp.map (·.body) = [[3, 10, 0]])) = true := by
  unfold State.ButtonSourceFixed; decide +kernel

/-- R116: the longest body clears the record all the same. -/
theorem test_witness_capture_clear :
    valuesFit (List.replicate 28 0xFF) = true
      ∧ nextHas (exec (.captureRecordClear 0 15 0xFFFF (List.replicate 28 0xFF)) quiet)
          (fun t => decide (t.queues.upRsp.map (·.body) = [[0, 11, 15]])) = true := by decide +kernel

theorem test_witness_agent_and_counting :
    nextHas (exec (.agentTableWrite 0 14 4 [1]) quiet) (fun t => decide (t.queues.upRsp.map (·.body) = [[3, 12, 14]])) = true
      ∧ nextHas (exec (.countingEnableWrite 0 9 1 [1]) quiet) (fun t => (t.dom 9).counting) = true
      ∧ nextHas (exec (.countingEnableWrite 0 9 1 [2]) quiet) (fun t => !(t.dom 9).counting) = true := by decide +kernel

/-- R120, R126 at the edges of their ranges. -/
theorem test_witness_pattern_and_times :
    IndPattern.wf ⟨.blink, 4095, 4095, true⟩ = true ∧ IndPattern.wf ⟨.blink, 0, 0, true⟩ = false
      ∧ IndPattern.wf ⟨.blink, 4096, 0, true⟩ = false ∧ quiet.selected = 0 ∧ (3 : Fin 4) ≠ quiet.selected
      ∧ nextHas (exec (.buttonTimesWrite 0 0 0x300 [255, 0x03, 0xE8]) quiet)
          (fun t => t.button.debounce == 255 && t.button.override == 1000) = true
      ∧ nextHas (exec (.buttonTimesWrite 0 0 0x300 [62, 0, 62]) quiet) (fun t => t.button.debounce == 2) = true
      ∧ nextHas (exec (.indicatorPatternWrite 0 0 2 [0, 1]) quiet)
          (fun t => (t.indicator.buffered.get 0).period == 1 && (t.indicator.working.get 0).period == 61) = true := by
  decide +kernel

/-! ## Witnesses: encoding and invariants -/

theorem test_witness_frames_read_back :
    (xfer 1).wf = true ∧ parseFrame (xfer 1).wire = some (xfer 1)
      ∧ Frame.wf { xfer 1 with body := List.replicate 32 7 } = true
      ∧ Frame.wf { xfer 1 with body := List.replicate 33 7 } = false := by decide +kernel

theorem test_witness_link_sound : (ready1 .upRsp).QueuesBounded ∧ (ready1 .upRsp).DownPortsEmpty ∧ (ready1 .upRsp).FramesSound := by
  refine ⟨?_, ?_, ?_, ?_, ?_, ?_⟩
  · intro q; cases q <;> decide +kernel
  · intro p h; cases p <;> exact absurd h (by decide +kernel)
  · intro q; cases q <;> decide +kernel
  · intro p f h; cases p <;> exact absurd h (by simp [ready1, ready, quiet, State.port, resetPort])
  · intro p f h; cases p <;> exact absurd h (by simp [ready1, ready, quiet, State.port, resetPort])
  · decide +kernel

theorem test_witness_units_sound :
    (lined .run).SignalsSound ∧ (lined .run).ButtonSourceFixed ∧ (lined .run).CapturesSound ∧ (lined .run).MarksMatch
      ∧ (held .run .held 3 true).ButtonSound ∧ (blinking 121 false).IndicatorSound := by
  unfold State.SignalsSound State.KeysDistinct SignalEntry.Sound State.ButtonSourceFixed State.CapturesSound
    CaptureRecord.Sound State.MarksMatch State.ButtonSound State.IndicatorSound
  decide +kernel

theorem test_witness_counters_bounded : quiet.CountersBounded := by
  refine ⟨?_, ?_⟩
  · intro p; cases p <;> decide +kernel
  · unfold DomainStats.Bounded; decide +kernel

theorem test_witness_sets_sound : quiet.SetsSound ∧ State.UndoDistinct { quiet with undo := [.domain 3 true, .domain 4 true] } := by
  unfold State.SetsSound ConfigSet.Sound State.UndoDistinct; decide +kernel

theorem test_witness_ramps_sound (d : DomainId) : (quiet.dom d).Sound := by
  have h : quiet.dom d = { resetDomain true with state := .on } := by simp [quiet, State.dom, Vector.get]
  rw [h]
  exact ⟨trivial, trivial, nofun, nofun, nofun⟩

/-- A condition on every live step of a plan is a condition on 32 indexes. -/
theorem live_steps_of_indexes (p : Plan) (c : Step → Prop) (h : ∀ i : Fin 32, ∀ t ∈ p.step? i.val, c t) :
    ∀ i t, p.step? i = some t → c t := by
  intro i t hi
  by_cases hlt : i < 32
  · exact h ⟨i, hlt⟩ t hi
  · simp [Plan.step?, hlt] at hi

/-- A live step reaches a present domain or a port, as its kind asks. -/
def reaches (t : Step) : Bool :=
  match t.kind, t.place with
  | .enable, .domain d | .disable, .domain d | .awaitGood, .domain d | .awaitLow, .domain d => (quiet.cfg d).present
  | .enable, _ | .disable, _ | .awaitGood, _ | .awaitLow, _ => false
  | .emit, .port _ | .sync, .port _ | .guard, .port _ => true
  | .emit, _ | .sync, _ | .guard, _ => false
  | .delay, _ | .park, _ | .commit, _ | .retry, _ => true

theorem test_witness_plans_sound : quiet.PlansSound := by
  have live : ∀ k : SlotId, ∀ i : Fin 32, ∀ t ∈ (romSet.plans.get k).step? i.val, reaches t = true := by decide +kernel
  have shape : ∀ k : SlotId, (romSet.plans.get k).count ≠ 0 ∧ planShape k (romSet.plans.get k) = true := by decide +kernel
  intro k
  refine ⟨(shape k).1, (shape k).2, fun i t hi => ?_⟩
  have h : reaches t = true := live_steps_of_indexes _ (fun t => reaches t = true) (live k) i t hi
  constructor <;> intro hk <;> unfold reaches at h
  · split at h <;> simp_all
  · split at h <;> simp_all

/-- RUN with no plan, no mark and no record. -/
theorem test_witness_sequencer_sound : quiet.SequencerSound ∧ quiet.RecordsPresent ∧ quiet.DomainsSound := by
  refine ⟨⟨test_witness_plans_sound, ?_, ?_⟩, ?_, test_witness_domains_sound⟩
  · exact ⟨by decide +kernel, by decide +kernel⟩
  · refine ⟨?_, ?_, ?_⟩ <;> decide +kernel
  · intro d b h
    rcases h with h | h <;> simp [quiet, State.reset, releasedContext] at h

end Sys2Proof.Tests
end

section
/-! # What the blocks leave of each other's registers

The sequencer's side of a state is its platform state, its context, its undo stack and the two sets; the domain records
stand beside it. The links, the classifier, the wake unit, the button and the notices touch neither, and the domain
controller touches the domain records alone. -/

namespace Sys2Proof.Machine

open Sys2Proof

/-! ## The two views -/

/-- The sequencer's side of a state: platform state, context, undo stack, staged and active set. -/
structure SeqView where
  platform : PlatformState
  ctx : PlanContext
  undo : List UndoRecord
  staged : ConfigSet
  active : ConfigSet

/-- The sequencer's side of a state. -/
def State.seqView (s : State) : SeqView := ⟨s.platform, s.ctx, s.undo, s.staged, s.active⟩

/-- The sequencer's side together with the domain records. -/
def State.core (s : State) : SeqView × Vector DomainRuntime 10 := (s.seqView, s.domains)

theorem seqView_eq_iff {s t : State} :
    t.seqView = s.seqView ↔
      t.platform = s.platform ∧ t.ctx = s.ctx ∧ t.undo = s.undo ∧ t.staged = s.staged ∧ t.active = s.active := by
  simp [State.seqView]

theorem core_eq_iff {s t : State} : t.core = s.core ↔ t.seqView = s.seqView ∧ t.domains = s.domains := by
  simp [State.core]

theorem seqView_of_core {s t : State} (h : t.core = s.core) : t.seqView = s.seqView := (core_eq_iff.mp h).1

/-! ## Updates that leave the core -/

@[simp] theorem core_notify (s : State) (n : Notice) : (s.notify n).core = s.core := rfl

@[simp] theorem core_notifyIf (s : State) (c : Bool) (n : Notice) : (s.notifyIf c n).core = s.core := by
  cases c <;> rfl

@[simp] theorem core_setQueue (s : State) (q : QueueId) (l : List Frame) : (s.setQueue q l).core = s.core := rfl

@[simp] theorem core_setPort (s : State) (p : Port) (x : PortState) : (s.setPort p x).core = s.core := by
  cases p <;> rfl

@[simp] theorem core_setButton (s : State) (b : ButtonUnit) : (s.setButton b).core = s.core := rfl

@[simp] theorem core_setCapture (s : State) (n : SourceId) (c : CaptureRecord) : (s.setCapture n c).core = s.core := rfl

@[simp] theorem core_setLine (s : State) (l : WakeLine) (b : Bool) : (s.setLine l b).core = s.core := by
  cases l <;> rfl

@[simp] theorem core_setEmitted (s : State) (p : Port) (sig : Byte) (l : Level) :
    (s.setEmitted p sig l).core = s.core := by
  cases p <;> rfl

@[simp] theorem core_setOutcome (s : State) (k : ItemId) (st : ApplyStatus) : (s.setOutcome k st).core = s.core := rfl

@[simp] theorem core_tick (s : State) : s.tick.core = s.core := rfl

/-! ## Links and frames -/

@[simp] theorem core_enqueue (s : State) (q : QueueId) (f : Frame) : (s.enqueue q f).core = s.core := by
  obtain ⟨-, h⟩ | ⟨-, h⟩ := enqueue_cases s q f <;> simp [h]

@[simp] theorem core_linkError (s : State) (p : Port) : (s.linkError p).core = s.core := by
  simp [State.linkError]

@[simp] theorem core_discard (s : State) (p : Port) (n : Nat) : (s.discard p n).core = s.core := by
  simp [State.discard]

@[simp] theorem core_sendOwn (s : State) (p : Port) (sig : Byte) (l : Level) : (s.sendOwn p sig l).core = s.core := by
  unfold State.sendOwn
  split <;> simp

@[simp] theorem core_recordEmit (s : State) (p : Port) (sig : Byte) (l : Level) :
    (s.recordEmit p sig l).core = s.core := by
  simp [State.recordEmit]

@[simp] theorem core_chooseFrame (s : State) (p : Port) : (s.chooseFrame p).core = s.core := by
  obtain h | ⟨q, f, rest, -, -, -, -, h⟩ := chooseFrame_cases s p <;> simp [h]

@[simp] theorem core_chooseBoth (s : State) : s.chooseBoth.core = s.core := by
  simp [State.chooseBoth]

@[simp] theorem core_queueNote (s : State) : s.queueNote.core = s.core :=
  core_enqueue s .upRsp s.noteFrame

@[simp] theorem core_tryNote (s : State) : s.tryNote.core = s.core := by
  obtain ⟨-, h⟩ | h := tryNote_cases s <;> simp [h]

@[simp] theorem core_settle (s : State) (b : Before) : (s.settle b).1.core = s.core := by
  obtain ⟨p, -, h⟩ | ⟨-, h⟩ | h := settle_cases s b <;> simp [h]

@[simp] theorem core_countMiss (s : State) (a : BitVec 4) : (s.countMiss a).core = s.core := by
  unfold State.countMiss
  split <;> rfl

@[simp] theorem core_carryFate (s : State) (fate : Fate) (f : Frame) : (s.carryFate fate f).core = s.core := by
  cases fate <;> simp [State.carryFate]

@[simp] theorem core_writeLevel (s : State) (p : Port) (a : BitVec 4) (sig : Byte) (l : Level) :
    (s.writeLevel p a sig l).core = s.core := by
  unfold State.writeLevel
  split
  · rfl
  · split <;> rfl

@[simp] theorem core_emptyHead (s : State) (p : Port) : (s.emptyHead p).core = s.core := by
  simp [State.emptyHead]

@[simp] theorem core_takeHead (s : State) (p : Port) (f : Frame) (fate : Fate) :
    (s.takeHead p f fate).1.core = s.core := by
  unfold State.takeHead
  split <;> simp

@[simp] theorem core_judgeHead (s : State) (p : Port) : (s.judgeHead p).1.core = s.core := by
  obtain ⟨f, -, -, h⟩ | h := judgeHead_cases s p <;> simp [h]

@[simp] theorem core_receive (s : State) (p : Port) (bytes : List Byte) : (s.receive p bytes).1.core = s.core := by
  obtain ⟨-, h⟩ | h | ⟨f, -, -, -, h⟩ := receive_cases s p bytes <;> simp [h]

@[simp] theorem core_flushQueues (s : State) (p : Port) : (s.flushQueues p).core = s.core := by
  cases p <;> simp [State.flushQueues, txQueues]

@[simp] theorem core_linkGoesDown (s : State) (p : Port) : (s.linkGoesDown p).1.core = s.core := by
  unfold State.linkGoesDown
  split <;> simp

@[simp] theorem core_linkGoesUp (s : State) (p : Port) : (s.linkGoesUp p).core = s.core := core_setPort _ _ _

@[simp] theorem core_setPartnerReady (s : State) (p : Port) (b : Bool) : (s.setPartnerReady p b).core = s.core :=
  core_setPort _ _ _

@[simp] theorem core_endTransmission (s : State) (p : Port) : (s.endTransmission p).core = s.core := core_setPort _ _ _

@[simp] theorem core_respond (s : State) (f : Frame) : (s.respond f).core = s.core := by
  unfold State.respond
  split <;> simp

@[simp] theorem core_offerRequest (s : State) (f : Frame) : (s.offerRequest f).1.core = s.core := by
  obtain ⟨-, h | h | ⟨-, -, -, h⟩⟩ | ⟨-, -, h⟩ | ⟨-, -, -, h⟩ | ⟨-, -, h⟩ := offerRequest_cases s f <;>
    simp [h, core_setPort s .up]

/-! ## Wake unit, button, marks -/

@[simp] theorem core_capture (s : State) (n : SourceId) (e : CaptureEffect) : (s.capture n e).core = s.core := rfl

@[simp] theorem core_buttonFalls (s : State) : s.buttonFalls.core = s.core := by
  unfold State.buttonFalls
  split
  · rfl
  · split <;> rfl

@[simp] theorem core_buttonEmit (s : State) (l : Level) : (s.buttonEmit l).core = s.core := by
  obtain ⟨-, h⟩ | ⟨-, h⟩ := buttonEmit_cases s l <;> simp [h]

@[simp] theorem core_buttonRises (s : State) : s.buttonRises.core = s.core := by
  unfold State.buttonRises
  split
  · rfl
  · cases s.button.hold <;> cases s.button.hubMark <;> simp

@[simp] theorem core_recognize (s : State) : s.recognize.1.core = s.core := by
  unfold State.recognize
  split
  · rfl
  · split <;> simp

@[simp] theorem core_overrideActs (s : State) : s.overrideActs.1.core = s.core := by
  unfold State.overrideActs
  split <;> rfl

@[simp] theorem core_markItems (s : State) (sel : ItemId → Bool) : (s.markItems sel).core = s.core := by
  have fold (l : List ItemId) (t : State) :
      (l.foldl (fun t k => if sel k then t.markPending k else t) t).core = t.core := by
    induction l generalizing t with
    | nil => rfl
    | cons k l ih =>
      rw [List.foldl_cons, ih]
      split <;> rfl
  exact fold _ s

/-! ## The domain controller -/

@[simp] theorem seqView_setDom (s : State) (d : DomainId) (r : DomainRuntime) : (s.setDom d r).seqView = s.seqView :=
  rfl

@[simp] theorem seqView_notify (s : State) (n : Notice) : (s.notify n).seqView = s.seqView := rfl

@[simp] theorem seqView_notifyIf (s : State) (c : Bool) (n : Notice) : (s.notifyIf c n).seqView = s.seqView := by
  cases c <;> rfl

@[simp] theorem seqView_changeDom (s : State) (d : DomainId) (r : DomainRuntime) :
    (s.changeDom d r).seqView = s.seqView := rfl

@[simp] theorem seqView_startHold (s : State) (d : DomainId) : (s.startHold d).1.seqView = s.seqView := by
  obtain ⟨-, h⟩ | ⟨-, h⟩ := startHold_cases s d <;> simp [h]

@[simp] theorem seqView_tryPinned (s : State) (d : DomainId) : (s.tryPinned d).seqView = s.seqView := by
  rw [tryPinned_shape, State.seqView, State.seqView]

@[simp] theorem seqView_parentArrived (s : State) (d : DomainId) : (s.parentArrived d).seqView = s.seqView := by
  rw [parentArrived_shape, State.seqView, State.seqView]

@[simp] theorem seqView_acceptEnable (s : State) (d : DomainId) : (s.acceptEnable d).1.seqView = s.seqView := by
  unfold State.acceptEnable
  split <;> simp

@[simp] theorem seqView_enableEffect (s : State) (d : DomainId) (a : EnableAnswer) :
    (s.enableEffect d a).1.seqView = s.seqView := by
  obtain ⟨-, -, h⟩ | h := enableEffect_cases s d a <;> simp [h]

@[simp] theorem seqView_enterOff (s : State) (d : DomainId) (r : DomainRuntime) :
    (s.enterOff d r).1.seqView = s.seqView :=
  seqView_startHold (s.changeDom d { r with state := .off }) d

@[simp] theorem seqView_dropEnable (s : State) (d : DomainId) : (s.dropEnable d).1.seqView = s.seqView := by
  unfold State.dropEnable
  split <;> simp

@[simp] theorem seqView_clearFault (s : State) (d : DomainId) : (s.clearFault d).1.seqView = s.seqView := by
  unfold State.clearFault
  split <;> simp

@[simp] theorem seqView_disableEffect (s : State) (d : DomainId) : (s.disableEffect d).1.seqView = s.seqView := by
  obtain ⟨-, h⟩ | ⟨-, -, -, h⟩ | ⟨-, -, h⟩ | h := disableEffect_cases s d <;> simp [h]

@[simp] theorem seqView_faultEntry (s : State) (d : DomainId) (c : FaultCause) :
    (s.faultEntry d c).1.seqView = s.seqView := by
  simp [State.faultEntry]

@[simp] theorem seqView_faultAll (s : State) (c : FaultCause) (ds : List DomainId) :
    (s.faultAll c ds).1.seqView = s.seqView := by
  induction ds generalizing s with
  | nil => rfl
  | cons d ds ih => exact (ih _).trans (seqView_faultEntry s d c)

@[simp] theorem seqView_faultDomain (s : State) (d : DomainId) (c : FaultCause) :
    (s.faultDomain d c).1.seqView = s.seqView :=
  (seqView_faultAll _ _ _).trans (seqView_faultEntry s d c)

@[simp] theorem seqView_waitExpiry (s : State) (d : DomainId) (forOn : Bool) :
    (s.waitExpiry d forOn).1.seqView = s.seqView := by
  unfold State.waitExpiry
  dsimp only
  split <;> simp

@[simp] theorem seqView_pgRise (s : State) (d : DomainId) : (s.pgRise d).1.seqView = s.seqView := by
  unfold State.pgRise
  dsimp only
  split
  · rfl
  · split
    · rfl
    · split <;> simp

@[simp] theorem seqView_pgFall (s : State) (d : DomainId) : (s.pgFall d).1.seqView = s.seqView := by
  unfold State.pgFall
  dsimp only
  split
  · rfl
  · split
    · rfl
    · split <;> simp

@[simp] theorem seqView_holdExpiry (s : State) (d : DomainId) : (s.holdExpiry d).1.seqView = s.seqView := by
  unfold State.holdExpiry
  split <;> rfl

@[simp] theorem seqView_overrangeExpiry (s : State) (d : DomainId) : (s.overrangeExpiry d).1.seqView = s.seqView := by
  unfold State.overrangeExpiry
  split <;> rfl

@[simp] theorem seqView_sweepDomain (s : State) (d : DomainId) : (s.sweepDomain d).1.seqView = s.seqView := by
  unfold State.sweepDomain State.sweepEnable
  split
  · rfl
  · split
    · simp
    · split <;> simp

@[simp] theorem seqView_sweepAll (s : State) (ds : List DomainId) : (s.sweepAll ds).1.seqView = s.seqView := by
  induction ds generalizing s with
  | nil => rfl
  | cons d ds ih => exact (ih _).trans (seqView_sweepDomain s d)

@[simp] theorem seqView_finalSweep (s : State) : s.finalSweep.1.seqView = s.seqView := seqView_sweepAll s _

end Sys2Proof.Machine
end

section
/-! # Equations of the sequencer's operations

What an operation that runs one block's work and then another's comes to, with its state and its work named, and the
inversion of the operations with many branches. -/

namespace Sys2Proof.Machine

open Sys2Proof

/-! ## The domain controller -/

theorem dom_setDom (s : State) (d e : DomainId) (r : DomainRuntime) :
    (s.setDom d r).dom e = if e = d then r else s.dom e := get_set _ _ _ _

theorem mem_allDomains (d : DomainId) : d ∈ allDomains := by
  unfold allDomains
  fin_cases d <;> decide

theorem enterOff_eq (s : State) (d : DomainId) (r : DomainRuntime) :
    s.enterOff d r =
      (((s.changeDom d { r with state := .off }).startHold d).1,
        .offReport d :: ((s.changeDom d { r with state := .off }).startHold d).2) := rfl

theorem faultAll_cons (s : State) (c : FaultCause) (d : DomainId) (ds : List DomainId) :
    s.faultAll c (d :: ds) =
      (((s.faultEntry d c).1.faultAll c ds).1, (s.faultEntry d c).2 ++ ((s.faultEntry d c).1.faultAll c ds).2) := rfl

theorem faultDomain_eq (s : State) (d : DomainId) (c : FaultCause) :
    s.faultDomain d c =
      (((s.faultEntry d c).1.faultAll .parentLost (s.cascade d)).1,
        (d :: s.cascade d).map s.faultReportOf ++ (s.faultEntry d c).2
          ++ ((s.faultEntry d c).1.faultAll .parentLost (s.cascade d)).2) := rfl

theorem sweepAll_cons (s : State) (d : DomainId) (ds : List DomainId) :
    s.sweepAll (d :: ds) =
      (((s.sweepDomain d).1.sweepAll ds).1, (s.sweepDomain d).2 ++ ((s.sweepDomain d).1.sweepAll ds).2) := rfl

/-- R77: the record of a domain after its wait has expired. -/
def State.timedOut (s : State) (d : DomainId) : State :=
  s.setDom d ((s.dom d).count fun t => { t with timeouts := satAdd wordCeiling t.timeouts 1 })

/-- R77: a wait for ON that expires on a RISING domain faults it; any other wait counts alone. -/
theorem waitExpiry_cases (s : State) (d : DomainId) (forOn : Bool) :
    (forOn = true ∧ (s.dom d).state = .rising ∧ s.waitExpiry d forOn = (s.timedOut d).faultDomain d .timeout)
      ∨ (¬ (forOn = true ∧ (s.dom d).state = .rising) ∧ s.waitExpiry d forOn = (s.timedOut d, [])) := by
  unfold State.waitExpiry State.timedOut
  by_cases h : forOn = true ∧ (s.dom d).state = .rising
  · exact .inl ⟨h.1, h.2, by simp [h]⟩
  · exact .inr ⟨h, by simp at h; simp; exact fun a b => absurd b (h a)⟩

/-- R71: what a rising edge of a power-good input does. -/
theorem pgRise_cases (s : State) (d : DomainId) :
    ((s.dom d).pg = true ∧ s.pgRise d = (s, []))
      ∨ (((s.cfg d).present = false ∨ (s.dom d).state = .on ∨ (s.dom d).state = .falling)
          ∧ s.pgRise d = (s.setDom d { s.dom d with pg := true }, []))
      ∨ ((s.dom d).state = .rising ∧ (s.cfg d).present = true
          ∧ s.pgRise d =
            (((s.notifyIf (riseClass { s.dom d with pg := true } (s.cfg d) s.fine ≠ .ok) .rampOutOfWindow).changeDom d
              { ({ s.dom d with pg := true } : DomainRuntime).captureRise (s.cfg d) s.fine with
                state := .on }).parentArrived d, [.onReport d]))
      ∨ (((s.dom d).state = .off ∨ (s.dom d).state = .fault)
          ∧ s.pgRise d = ((s.setDom d { s.dom d with pg := true, stray := true }).notify .strayPower, [])) := by
  unfold State.pgRise
  dsimp only
  split
  · exact .inl ⟨‹_›, rfl⟩
  · split
    · rename_i hp
      exact .inr (.inl ⟨.inl (by simpa using hp), rfl⟩)
    · rename_i hp
      split
      · exact .inr (.inr (.inl ⟨‹_›, by simpa using hp, rfl⟩))
      · exact .inr (.inr (.inr ⟨.inl ‹_›, rfl⟩))
      · exact .inr (.inr (.inr ⟨.inr ‹_›, rfl⟩))
      · exact .inr (.inl ⟨.inr (.inl ‹_›), rfl⟩)
      · exact .inr (.inl ⟨.inr (.inr ‹_›), rfl⟩)

/-- R72, R73: what a falling edge of a power-good input does. -/
theorem pgFall_cases (s : State) (d : DomainId) :
    ((s.dom d).pg = false ∧ s.pgFall d = (s, []))
      ∨ ((s.dom d).pg = true ∧ ((s.cfg d).present = false ∨ (s.dom d).state = .rising)
          ∧ s.pgFall d = (s.setDom d { s.dom d with pg := false }, []))
      ∨ ((s.dom d).pg = true ∧ (s.cfg d).present = true ∧ (s.dom d).state = .on
          ∧ s.pgFall d = (s.setDom d { s.dom d with pg := false }).faultDomain d .pgLost)
      ∨ ((s.dom d).pg = true ∧ (s.cfg d).present = true ∧ (s.dom d).state = .falling
          ∧ s.pgFall d =
            (s.notifyIf (fallClass { s.dom d with pg := false } (s.cfg d) s.fine ≠ .ok) .rampOutOfWindow).enterOff d
              (({ s.dom d with pg := false } : DomainRuntime).captureFall (s.cfg d) s.fine))
      ∨ ((s.dom d).pg = true ∧ (s.cfg d).present = true ∧ ((s.dom d).state = .off ∨ (s.dom d).state = .fault)
          ∧ s.pgFall d = ((s.setDom d { s.dom d with pg := false }).tryPinned d, [])) := by
  unfold State.pgFall
  dsimp only
  split
  · rename_i hpg
    exact .inl ⟨by simpa using hpg, rfl⟩
  · rename_i hpg
    have hpg : (s.dom d).pg = true := by simpa using hpg
    split
    · rename_i hp
      exact .inr (.inl ⟨hpg, .inl (by simpa using hp), rfl⟩)
    · rename_i hp
      have hp : (s.cfg d).present = true := by simpa using hp
      split
      · exact .inr (.inr (.inl ⟨hpg, hp, ‹_›, rfl⟩))
      · exact .inr (.inr (.inr (.inl ⟨hpg, hp, ‹_›, rfl⟩)))
      · exact .inr (.inr (.inr (.inr ⟨hpg, hp, .inl ‹_›, rfl⟩)))
      · exact .inr (.inr (.inr (.inr ⟨hpg, hp, .inr ‹_›, rfl⟩)))
      · exact .inr (.inl ⟨hpg, .inr ‹_›, rfl⟩)

/-- R59: what the sweep does to one domain. -/
theorem sweepDomain_cases (s : State) (d : DomainId) :
    (s.sweeps d = false ∧ s.sweepDomain d = (s, []))
      ∨ (s.sweeps d = true ∧ (s.dom d).state = .fault ∧ s.sweepDomain d = s.clearFault d)
      ∨ (s.sweeps d = true ∧ (s.dom d).state.enabled = true ∧ (s.dom d).pg = true
          ∧ s.sweepDomain d = (s.changeDom d ((s.dom d).fall s.fine), []))
      ∨ (s.sweeps d = true ∧ (s.dom d).state.enabled = true ∧ (s.dom d).pg = false
          ∧ s.sweepDomain d = s.enterOff d { s.dom d with overrange := false }) := by
  unfold State.sweepDomain State.sweepEnable
  cases hw : s.sweeps d
  · simp
  · have hs : (s.dom d).state.enabled = true ∨ (s.dom d).state = .fault := by
      simp only [State.sweeps, Bool.and_eq_true, Bool.or_eq_true, beq_iff_eq] at hw
      exact hw.2
    by_cases hf : (s.dom d).state = .fault
    · simp [hf]
    · cases hpg : (s.dom d).pg <;> simp [hf, hs.resolve_right hf]

/-! ## The sequencer -/

theorem enableAccepted_eq (s : State) (d : DomainId) :
    s.enableAccepted d =
      let e := s.enableEffect d .accepted
      let t := if (s.dom d).state.enabled = false then e.1.pushUndo (.domain d false) else e.1
      (t.completeStep.1, e.2 ++ t.completeStep.2) := by
  unfold State.enableAccepted
  cases (s.dom d).state.enabled <;> rfl

theorem disableStep_eq (s : State) (d : DomainId) (h : s.disableRefused d = false) :
    s.disableStep d =
      let e := s.disableEffect d
      let t := if (s.cfg d).pinned = false ∧ (s.dom d).state.enabled = true then e.1.pushUndo (.domain d true) else e.1
      (t.completeStep.1, e.2 ++ t.completeStep.2) := by
  unfold State.disableStep
  rw [h]
  cases (s.dom d).state.enabled <;> cases (s.cfg d).pinned <;> rfl

theorem recordEnabled_eq (s : State) (d : DomainId) :
    s.recordEnabled d =
      let e := s.enableEffect d .accepted
      let r := if e.1.isOn d then e.1.recordDone else e.1.recordWait (.rollbackGood d) (e.1.riseBudget d)
      (r.1, e.2 ++ r.2) := rfl

theorem recordOff_eq (s : State) (d : DomainId) (h : s.disableRefused d = false) :
    s.recordOff d =
      let e := s.disableEffect d
      let r :=
        if (s.cfg d).pinned then e.1.recordDone
        else if (e.1.dom d).state = .off then e.1.recordDone
        else e.1.recordWait (.rollbackLow d) (e.1.fallBudget d)
      (r.1, e.2 ++ r.2) := by
  unfold State.recordOff
  rw [h]
  rfl

theorem holdOver_eq (s : State) (d : DomainId) :
    s.holdOver d = ((s.judgeDeferred d).1.tryPinned d, (s.judgeDeferred d).2) := rfl

/-- R15, R59: the completion of the trip plan. -/
theorem completePlan_trip {s : State} (h : s.ctx.portion = .trip) :
    s.completePlan =
      (s.finalSweep.1.applyPendingItems.completeTrip.1,
        s.finalSweep.2 ++ s.finalSweep.1.applyPendingItems.completeTrip.2) := by
  unfold State.completePlan
  rw [h]

/-- R24: PARKED is left for CHECKING, and any other platform state stands. -/
theorem leavePark_cases (s : State) :
    (s.platform = .parked ∧ s.leavePark = s.enterPlatform .checking) ∨ (s.platform ≠ .parked ∧ s.leavePark = s) := by
  unfold State.leavePark
  by_cases h : s.platform = .parked <;> simp [h]

/-- R39 to R41: a failure proceeds with the mark set, aborts, or trips; with no current step it ends the wait alone. -/
theorem failStep_cases (s : State) :
    (s.currentStep = none ∧ s.failStep = (s.setWait .idle, []))
      ∨ ∃ t, s.currentStep = some t ∧
        ((t.action = .cont ∧ s.failStep =
            (State.notify { (s.setWait .idle).leavePark with
              ctx := { (s.setWait .idle).leavePark.ctx with failMark := true } } .stepFailed,
              [.start (s.ctx.index + 1)]))
          ∨ (t.action = .abort
              ∧ s.failStep = (s.setWait .idle).abort (if t.kind = .park then .parkLimit else .step s.ctx.index))
          ∨ (t.action = .trip
              ∧ s.failStep = (s.setWait .idle, [.tripCause (stepTripCause s.ctx.slot t s.ctx.index)]))) := by
  unfold State.failStep
  cases hc : s.currentStep with
  | none => simp
  | some t => cases ha : t.action <;> simp [ha]

/-- The wait ends in a failure of the step with no report to the domain controller. -/
def Wait.failsAlone : Wait → Bool
  | .enable _ | .space _ _ _ | .drain _ | .level _ _ _ _ | .release => true
  | .idle | .pinned | .good _ | .low _ | .delay | .rollbackEnable _ | .rollbackGood _ | .rollbackLow _
  | .rollbackSpace _ _ _ => false

/-- R25, R50 to R53, R77: what the end of a wait's budget does, by the wait. -/
theorem expireWait_cases (s : State) :
    (∃ d b, (s.ctx.wait = .good d ∧ b = true ∨ s.ctx.wait = .low d ∧ b = false)
        ∧ s.expireWait =
          ((s.waitExpiry d b).1.failStep.1, (s.waitExpiry d b).1.failStep.2 ++ (s.waitExpiry d b).2))
      ∨ (s.ctx.wait = .delay ∧ s.expireWait = s.completeStep)
      ∨ (s.ctx.wait.failsAlone = true ∧ s.expireWait = s.failStep)
      ∨ (∃ d b, (s.ctx.wait = .rollbackGood d ∧ b = true ∨ s.ctx.wait = .rollbackLow d ∧ b = false)
        ∧ s.expireWait =
          ((s.waitExpiry d b).1.failRollback.1, (s.waitExpiry d b).1.failRollback.2 ++ (s.waitExpiry d b).2))
      ∨ ((∃ p n l, s.ctx.wait = .rollbackSpace p n l) ∧ s.expireWait = s.failRollback)
      ∨ ((s.ctx.wait = .idle ∨ s.ctx.wait = .pinned ∨ ∃ d, s.ctx.wait = .rollbackEnable d)
        ∧ s.expireWait = (s, [])) := by
  unfold State.expireWait
  cases h : s.ctx.wait with
  | good d => exact .inl ⟨d, true, by simp, rfl⟩
  | low d => exact .inl ⟨d, false, by simp, rfl⟩
  | rollbackGood d => exact .inr (.inr (.inr (.inl ⟨d, true, by simp, rfl⟩)))
  | rollbackLow d => exact .inr (.inr (.inr (.inl ⟨d, false, by simp, rfl⟩)))
  | _ => simp [Wait.failsAlone]

theorem expireWait_good {s : State} {d : DomainId} (h : s.ctx.wait = .good d) :
    s.expireWait =
      ((s.waitExpiry d true).1.failStep.1, (s.waitExpiry d true).1.failStep.2 ++ (s.waitExpiry d true).2) := by
  unfold State.expireWait
  rw [h]

theorem expireWait_low {s : State} {d : DomainId} (h : s.ctx.wait = .low d) :
    s.expireWait = (s.timedOut d).failStep := by
  unfold State.expireWait
  rw [h]
  simp [State.waitExpiry, State.timedOut]

theorem expireWait_delay {s : State} (h : s.ctx.wait = .delay) : s.expireWait = s.completeStep := by
  unfold State.expireWait
  rw [h]

theorem expireWait_failsAlone {s : State} (h : s.ctx.wait.failsAlone = true) : s.expireWait = s.failStep := by
  unfold State.expireWait
  cases hw : s.ctx.wait <;> simp [hw, Wait.failsAlone] at h ⊢

/-- Table 1-3: a new request aborts an entry, starts an exit or an entry, or touches marks and notices alone. -/
theorem newRequest_cases (s : State) (r : Requested) :
    (r = .run ∧ (s.platform = .checking ∨ s.platform = .parked) ∧ s.newRequest r = s.abort .cancel)
      ∨ (r = .run ∧ (s.platform = .suspended ∨ s.platform = .hibernated ∨ s.platform = .softOff)
          ∧ s.newRequest r = s.startExit .hub)
      ∨ (∃ t, r = .low t ∧ s.platform = .run ∧ s.newRequest r = s.startEntry t)
      ∨ ((s.newRequest r).1.core = s.core ∧ (s.newRequest r).2 = []) := by
  cases r with
  | run =>
    unfold State.newRequest
    dsimp only
    split
    · exact .inl ⟨rfl, .inl ‹_›, rfl⟩
    · exact .inl ⟨rfl, .inr ‹_›, rfl⟩
    · exact .inr (.inr (.inr ⟨rfl, rfl⟩))
    · exact .inr (.inl ⟨rfl, .inl ‹_›, rfl⟩)
    · exact .inr (.inl ⟨rfl, .inr (.inl ‹_›), rfl⟩)
    · exact .inr (.inl ⟨rfl, .inr (.inr ‹_›), rfl⟩)
    all_goals exact .inr (.inr (.inr ⟨rfl, rfl⟩))
  | low t =>
    unfold State.newRequest
    dsimp only
    split
    · exact .inr (.inr (.inl ⟨t, rfl, ‹_›, rfl⟩))
    · exact .inr (.inr (.inr ⟨core_notifyIf _ _ _, rfl⟩))
    · exact .inr (.inr (.inr ⟨core_notifyIf _ _ _, rfl⟩))
    all_goals exact .inr (.inr (.inr ⟨rfl, rfl⟩))

end Sys2Proof.Machine
end

section
/-! # The sets, the ramp figures and the undo stack stay sound -/

namespace Sys2Proof.Machine

open Sys2Proof

/-- R43, R98, R101, R166: the sets and the ramp figures are sound, and no subject has two undo records. -/
def State.FiguresSound (s : State) : Prop := s.RampsSound ∧ s.UndoDistinct

/-! ## Ramp figures of one record -/

theorem rampValue_le (r : DomainRuntime) (now : Tick) : r.rampValue now ≤ 65535 := by
  unfold DomainRuntime.rampValue overrangeLimit elapsed
  have := (now - r.rampStart).isLt
  split <;> omega

theorem classify_ok {value lo hi : Nat} {o : Bool} (h : classify value lo hi o = .ok) : value ≤ hi := by
  unfold classify at h
  split_ifs at h with _ _ h2
  exact h2

/-- R98: an average that learns values within 60,000 stays within 240,000. -/
theorem learn_avgSound {avg : Option Nat} {cls : RampClass} {value : Nat} (h : avgSound avg)
    (hv : cls = .ok → value ≤ 60000) : avgSound (learn avg cls value) := by
  unfold learn
  split
  · rename_i hc
    have := hv hc
    cases avg with
    | none => simp only [updateAvg, avgSound]; omega
    | some a => simp only [updateAvg, avgSound] at h ⊢; omega
  · exact h

theorem DomainConfig.wf_bounds {c : DomainConfig} (h : c.wf = true) :
    c.riseMax ≤ 60000 ∧ c.fallMax ≤ 60000 ∧ c.holdMin ≤ 60000 := by
  simp only [DomainConfig.wf, Bool.and_eq_true, decide_eq_true_eq] at h
  omega

theorem DomainRuntime.Sound.count {r : DomainRuntime} (h : r.Sound) (f : DomainStats → DomainStats) :
    (r.count f).Sound := by
  unfold DomainRuntime.count
  split <;> exact h

theorem DomainRuntime.Sound.captureRise {r : DomainRuntime} (h : r.Sound) {c : DomainConfig} (hc : c.wf = true)
    (now : Tick) : (r.captureRise c now).Sound := by
  obtain ⟨hrise, hfall, -, hlast, hhold⟩ := h
  unfold DomainRuntime.captureRise
  refine DomainRuntime.Sound.count ?_ _
  refine ⟨learn_avgSound hrise fun hcls => ?_, hfall, ?_, hlast, hhold⟩
  · exact (classify_ok hcls).trans (DomainConfig.wf_bounds hc).1
  · intro x hx
    simp only [Option.some.injEq] at hx
    exact hx ▸ rampValue_le r now

theorem DomainRuntime.Sound.captureFall {r : DomainRuntime} (h : r.Sound) {c : DomainConfig} (hc : c.wf = true)
    (now : Tick) : (r.captureFall c now).Sound := by
  obtain ⟨hrise, hfall, hlast, -, hhold⟩ := h
  unfold DomainRuntime.captureFall
  refine DomainRuntime.Sound.count ?_ _
  refine ⟨hrise, learn_avgSound hfall fun hcls => ?_, hlast, ?_, hhold⟩
  · exact (classify_ok hcls).trans (DomainConfig.wf_bounds hc).2.1
  · intro x hx
    simp only [Option.some.injEq] at hx
    exact hx ▸ rampValue_le r now

theorem DomainRuntime.Sound.setHold {r : DomainRuntime} (h : r.Sound) {o : Option HoldOff}
    (ho : ∀ x, o = some x → 0 < x.length ∧ x.length ≤ 60000) : DomainRuntime.Sound { r with hold := o } := by
  obtain ⟨hrise, hfall, hlr, hlf, -⟩ := h
  exact ⟨hrise, hfall, hlr, hlf, ho⟩

theorem DomainRuntime.Sound.noHold {r : DomainRuntime} (h : r.Sound) : DomainRuntime.Sound { r with hold := none } :=
  h.setHold nofun

theorem DomainRuntime.Sound.rewindow {r : DomainRuntime} (h : r.Sound) (old new : DomainConfig) :
    (r.rewindow old new).Sound := by
  obtain ⟨hrise, hfall, rest⟩ := h
  refine ⟨?_, ?_, rest⟩
  · unfold DomainRuntime.rewindow
    dsimp only
    split
    · exact hrise
    · trivial
  · unfold DomainRuntime.rewindow
    dsimp only
    split
    · exact hfall
    · trivial

/-- R101: a hold-off is never longer than its cap. -/
theorem holdOffLength_le {c : DomainConfig} (h : c.wf = true) (avg : Option Nat) :
    holdOffLength c.holdMin avg ≤ 60000 := by
  have := (DomainConfig.wf_bounds h).2.2
  cases avg <;> simp only [holdOffLength, holdOffCap] <;> omega

theorem sameSubject_comm (a b : UndoRecord) : a.sameSubject b = b.sameSubject a := by
  cases a <;> cases b <;> simp only [UndoRecord.sameSubject, BEq.comm]

/-! ## The state's parts -/

namespace State.FiguresSound

variable {s t : State} {d : DomainId}

theorem of_eq (h : s.FiguresSound) (hu : t.undo = s.undo) (hst : t.staged = s.staged) (ha : t.active = s.active)
    (hd : t.domains = s.domains) : t.FiguresSound := by
  simp only [FiguresSound, RampsSound, SetsSound, UndoDistinct, State.dom] at h ⊢
  rw [hu, hst, ha, hd]
  exact h

theorem of_core (h : s.FiguresSound) (hc : t.core = s.core) : t.FiguresSound := by
  obtain ⟨hv, hd⟩ := core_eq_iff.mp hc
  obtain ⟨-, -, hu, hst, ha⟩ := seqView_eq_iff.mp hv
  exact h.of_eq hu hst ha hd

theorem dom (h : s.FiguresSound) (d : DomainId) : (s.dom d).Sound := h.1.2 d

theorem wf (h : s.FiguresSound) (d : DomainId) : (s.cfg d).wf = true := h.1.1.2.2 d

theorem setDom (h : s.FiguresSound) {r : DomainRuntime} (hr : r.Sound) : (s.setDom d r).FiguresSound := by
  refine ⟨⟨h.1.1, fun e => ?_⟩, h.2⟩
  rw [dom_setDom]
  split
  · exact hr
  · exact h.dom e

theorem changeDom (h : s.FiguresSound) {r : DomainRuntime} (hr : r.Sound) : (s.changeDom d r).FiguresSound :=
  h.setDom (r := { r with change := true }) hr

theorem withUndo (h : s.FiguresSound) {l : List UndoRecord} (hl : l.Pairwise fun a b => a.sameSubject b = false) :
    State.FiguresSound { s with undo := l } := ⟨h.1, hl⟩

theorem withStaged (h : s.FiguresSound) {c : ConfigSet} (hc : c.Sound) : State.FiguresSound { s with staged := c } :=
  ⟨⟨⟨hc, h.1.1.2⟩, h.1.2⟩, h.2⟩

theorem withActive (h : s.FiguresSound) {c : ConfigSet} (hc : c.Sound) : State.FiguresSound { s with active := c } :=
  ⟨⟨⟨h.1.1.1, hc⟩, h.1.2⟩, h.2⟩

theorem notifyIf (h : s.FiguresSound) (c : Bool) (n : Notice) : (s.notifyIf c n).FiguresSound :=
  h.of_core (core_notifyIf s c n)

/-! ## The domain controller -/

theorem startHold (h : s.FiguresSound) (d : DomainId) : (s.startHold d).1.FiguresSound := by
  obtain ⟨-, e⟩ | ⟨hpos, e⟩ := startHold_cases s d
  · rw [e]
    exact h.setDom (h.dom d).noHold
  · rw [e]
    refine h.setDom ((h.dom d).setHold fun x hx => ?_)
    obtain rfl := Option.some.inj hx
    exact ⟨hpos, holdOffLength_le (h.wf d) _⟩

theorem tryPinned (h : s.FiguresSound) (d : DomainId) : (s.tryPinned d).FiguresSound := by
  obtain ⟨-, e⟩ | ⟨-, e⟩ := tryPinned_cases s d
  · rw [e]
    exact h.changeDom (h.dom d)
  · rwa [e]

theorem parentArrived (h : s.FiguresSound) (d : DomainId) : (s.parentArrived d).FiguresSound := by
  unfold State.parentArrived
  refine List.foldlRecOn _ _ h fun t ht c _ => ?_
  split
  · exact ht.tryPinned c
  · exact ht

theorem acceptEnable (h : s.FiguresSound) (d : DomainId) : (s.acceptEnable d).1.FiguresSound := by
  unfold State.acceptEnable
  dsimp only
  split
  · dsimp only
    refine State.FiguresSound.parentArrived ?_ d
    exact h.changeDom (h.dom d)
  · exact h.changeDom (h.dom d)

theorem enableEffect (h : s.FiguresSound) (d : DomainId) (a : EnableAnswer) : (s.enableEffect d a).1.FiguresSound := by
  obtain ⟨-, -, e⟩ | e := enableEffect_cases s d a
  · exact e ▸ h.acceptEnable d
  · rwa [e]

theorem enterOff (h : s.FiguresSound) (d : DomainId) {r : DomainRuntime} (hr : r.Sound) :
    (s.enterOff d r).1.FiguresSound :=
  (h.changeDom (r := { r with state := .off }) hr).startHold d

theorem clearFault (h : s.FiguresSound) (d : DomainId) : (s.clearFault d).1.FiguresSound := by
  unfold State.clearFault
  split
  · exact h.changeDom (h.dom d).noHold
  · exact h.changeDom (h.dom d)

theorem disableEffect (h : s.FiguresSound) (d : DomainId) : (s.disableEffect d).1.FiguresSound := by
  obtain ⟨-, e⟩ | ⟨-, -, -, e⟩ | ⟨-, -, e⟩ | e := disableEffect_cases s d
  · rw [e]
    exact h.of_core (core_notify s .pinnedHit)
  · rw [e]
    unfold State.dropEnable
    dsimp only
    split
    · exact h.changeDom (h.dom d)
    · exact h.enterOff d (h.dom d)
  · exact e ▸ h.clearFault d
  · rwa [e]

theorem faultEntry (h : s.FiguresSound) (d : DomainId) (c : FaultCause) : (s.faultEntry d c).1.FiguresSound :=
  (h.changeDom (DomainRuntime.Sound.count
    (r := { s.dom d with state := .fault, cause := some c, overrange := false }) (h.dom d) _)).startHold d

theorem faultAll (h : s.FiguresSound) (c : FaultCause) (ds : List DomainId) : (s.faultAll c ds).1.FiguresSound := by
  induction ds generalizing s with
  | nil => exact h
  | cons d ds ih => exact ih (h.faultEntry d c)

theorem faultDomain (h : s.FiguresSound) (d : DomainId) (c : FaultCause) : (s.faultDomain d c).1.FiguresSound :=
  (h.faultEntry d c).faultAll .parentLost (s.cascade d)

theorem waitExpiry (h : s.FiguresSound) (d : DomainId) (forOn : Bool) : (s.waitExpiry d forOn).1.FiguresSound := by
  have ht : (s.timedOut d).FiguresSound := h.setDom ((h.dom d).count _)
  obtain ⟨-, -, e⟩ | ⟨-, e⟩ := waitExpiry_cases s d forOn
  · exact e ▸ ht.faultDomain d .timeout
  · rwa [e]

theorem pgRise (h : s.FiguresSound) (d : DomainId) : (s.pgRise d).1.FiguresSound := by
  have hr : DomainRuntime.Sound { s.dom d with pg := true } := h.dom d
  obtain ⟨-, e⟩ | ⟨-, e⟩ | ⟨-, -, e⟩ | ⟨-, e⟩ := pgRise_cases s d
  · rwa [e]
  · exact e ▸ h.setDom hr
  · rw [e]
    dsimp only
    refine State.FiguresSound.parentArrived ?_ d
    exact (h.notifyIf _ _).changeDom (hr.captureRise (h.wf d) s.fine)
  · rw [e]
    exact h.setDom (r := { s.dom d with pg := true, stray := true }) (h.dom d)

theorem pgFall (h : s.FiguresSound) (d : DomainId) : (s.pgFall d).1.FiguresSound := by
  have hr : DomainRuntime.Sound { s.dom d with pg := false } := h.dom d
  obtain ⟨-, e⟩ | ⟨-, -, e⟩ | ⟨-, -, -, e⟩ | ⟨-, -, -, e⟩ | ⟨-, -, -, e⟩ := pgFall_cases s d
  · rwa [e]
  · exact e ▸ h.setDom hr
  · exact e ▸ (h.setDom hr).faultDomain d .pgLost
  · exact e ▸ (h.notifyIf _ _).enterOff d (hr.captureFall (h.wf d) s.fine)
  · exact e ▸ (h.setDom hr).tryPinned d

theorem holdExpiry (h : s.FiguresSound) (d : DomainId) : (s.holdExpiry d).1.FiguresSound := by
  unfold State.holdExpiry
  split
  · exact h.setDom (h.dom d).noHold
  · exact h

theorem overrangeExpiry (h : s.FiguresSound) (d : DomainId) : (s.overrangeExpiry d).1.FiguresSound := by
  unfold State.overrangeExpiry
  split
  · exact h.setDom (r := { s.dom d with overrange := true }) (h.dom d)
  · exact h

theorem sweepDomain (h : s.FiguresSound) (d : DomainId) : (s.sweepDomain d).1.FiguresSound := by
  obtain ⟨-, e⟩ | ⟨-, -, e⟩ | ⟨-, -, -, e⟩ | ⟨-, -, -, e⟩ := sweepDomain_cases s d
  · rwa [e]
  · exact e ▸ h.clearFault d
  · rw [e]
    exact h.changeDom (h.dom d)
  · rw [e]
    exact h.enterOff d (h.dom d)

theorem sweepAll (h : s.FiguresSound) (ds : List DomainId) : (s.sweepAll ds).1.FiguresSound := by
  induction ds generalizing s with
  | nil => exact h
  | cons d ds ih => exact ih (h.sweepDomain d)

/-! ## Applies -/

theorem recordCopied (h : s.FiguresSound) (d : DomainId) (old new : DomainConfig) :
    (s.recordCopied d old new).FiguresSound := by
  have hr : (s.removeDomain d).FiguresSound := by
    unfold State.removeDomain
    dsimp only
    split
    · exact h.changeDom (r := { s.dom d with state := .off, hold := none }) (h.dom d).noHold
    · exact h.setDom (r := { s.dom d with state := .off, hold := none }) (h.dom d).noHold
  unfold State.recordCopied
  dsimp only
  split
  · exact hr.setDom ((hr.dom d).rewindow old new)
  · exact h.setDom ((h.dom d).rewindow old new)

theorem pinnedCopied (h : s.FiguresSound) (d : DomainId) (old new : DomainConfig) :
    (s.pinnedCopied d old new).FiguresSound := by
  unfold State.pinnedCopied
  split
  · exact h.tryPinned d
  · exact h

theorem copyDomainSet (h : s.FiguresSound) {ds : Vector DomainConfig 10} (hds : ∀ d, (ds.get d).wf = true) :
    (s.copyDomainSet ds).FiguresSound := by
  have hactive : State.FiguresSound { s with active := { s.active with domains := ds } } :=
    h.withActive ⟨h.1.1.2.1, hds⟩
  have hcopied := List.foldlRecOn allDomains
    (fun t d => t.recordCopied d (s.active.domains.get d) (ds.get d)) hactive
    fun t ht d _ => State.FiguresSound.recordCopied ht d _ _
  exact List.foldlRecOn allDomains _ hcopied fun t ht d _ => State.FiguresSound.pinnedCopied ht d _ _

theorem copyPlan (h : s.FiguresSound) (k : SlotId) {p : Plan}
    (hp : p.count ≤ 32 ∧ ∀ i : Fin 32, (p.steps.get i).wf = true) : (s.copyPlan k p).FiguresSound := by
  refine h.withActive ⟨fun j => ?_, h.1.1.2.2⟩
  dsimp only
  rw [get_set]
  split
  · exact hp
  · exact h.1.1.2.1 j

theorem applyDomains (h : s.FiguresSound) : s.applyDomains.FiguresSound := by
  unfold State.applyDomains
  dsimp only
  split
  · exact of_core (h.copyDomainSet h.1.1.1.2) (core_setOutcome _ _ _)
  · exact h.of_core (core_setOutcome _ _ _)

theorem applyPlan (h : s.FiguresSound) (k : SlotId) : (s.applyPlan k).FiguresSound := by
  unfold State.applyPlan
  dsimp only
  split
  · exact of_core (h.copyPlan k (h.1.1.1.1 k)) (core_setOutcome _ _ _)
  · exact h.of_core (core_setOutcome _ _ _)

theorem applyItems (h : s.FiguresSound) (sel : ItemId → Bool) : (s.applyItems sel).FiguresSound := by
  unfold State.applyItems
  refine List.foldlRecOn _ _ ?_ fun t ht k _ => ?_
  · split
    · exact h.applyDomains
    · exact h
  · split
    · exact State.FiguresSound.applyPlan ht k
    · exact ht

theorem applySelected (h : s.FiguresSound) (sel : ItemId → Bool) : (s.applySelected sel).FiguresSound := by
  unfold State.applySelected
  split
  · exact of_core (h.applyItems sel) (core_notify _ _)
  · exact h

theorem applyPendingItems (h : s.FiguresSound) : s.applyPendingItems.FiguresSound := h.applySelected _

/-! ## The sequencer -/

theorem enterPlatform (h : s.FiguresSound) (p : PlatformState) : (s.enterPlatform p).FiguresSound :=
  h.of_eq (by simp) (by simp) (by simp) (by simp)

theorem leavePark (h : s.FiguresSound) : s.leavePark.FiguresSound := by
  obtain ⟨-, e⟩ | ⟨-, e⟩ := leavePark_cases s
  · exact e ▸ h.enterPlatform _
  · rwa [e]

/-- R43: a push never gives a subject a second record. -/
theorem pushUndo (h : s.FiguresSound) (r : UndoRecord) : (s.pushUndo r).FiguresSound := by
  obtain ⟨-, hnew, e⟩ | e := pushUndo_cases s r
  · rw [e]
    refine h.withUndo (List.pairwise_cons.mpr ⟨fun u hu => ?_, h.2⟩)
    rw [sameSubject_comm]
    simpa using List.all_eq_true.mp hnew u hu
  · rwa [e]

theorem completeStep (h : s.FiguresSound) : s.completeStep.1.FiguresSound :=
  leavePark (s := s.setWait .idle) h

theorem abort (h : s.FiguresSound) (c : AbortCause) : (s.abort c).1.FiguresSound :=
  enterPlatform (s := { s with
    ctx := { (s.setWait .idle).ctx with portion := .rollback },
    notices := s.notices.raise .entryAborted, lastAbort := some c }) h _

theorem failStep (h : s.FiguresSound) : s.failStep.1.FiguresSound := by
  have h0 : (s.setWait .idle).FiguresSound := h
  obtain ⟨-, e⟩ | ⟨t, -, ⟨-, e⟩ | ⟨-, e⟩ | ⟨-, e⟩⟩ := failStep_cases s
  · rwa [e]
  · rw [e]
    exact h0.leavePark
  · rw [e]
    exact h0.abort _
  · rwa [e]

theorem expireWait (h : s.FiguresSound) : s.expireWait.1.FiguresSound := by
  obtain ⟨d, b, -, e⟩ | ⟨-, e⟩ | ⟨-, e⟩ | ⟨d, b, -, e⟩ | ⟨-, e⟩ | ⟨-, e⟩ := expireWait_cases s
  · exact e ▸ (h.waitExpiry d b).failStep
  · exact e ▸ h.completeStep
  · exact e ▸ h.failStep
  · exact e ▸ h.waitExpiry d b
  · exact e ▸ h
  · rwa [e]

theorem waitFor (h : s.FiguresSound) (w : Wait) : (s.waitFor w).1.FiguresSound := by
  have hw : (s.setWait w).FiguresSound := h
  obtain ⟨-, e⟩ | ⟨-, e⟩ := waitFor_cases s w
  · exact e ▸ hw.expireWait
  · rwa [e]

theorem recordWait (h : s.FiguresSound) (w : Wait) (b : Nat) : (s.recordWait w b).1.FiguresSound :=
  waitFor (s := { s with ctx := { s.ctx with clock := .fine, startTick := s.fine, budget := some b } }) h w

theorem startEntry (h : s.FiguresSound) (t : LowState) : (s.startEntry t).1.FiguresSound := by
  have hs : State.FiguresSound { s.setUpPlan (entrySlot t) .check none with undo := [] } := ⟨h.1, .nil⟩
  unfold State.startEntry
  dsimp only
  split
  · exact (hs.enterPlatform _).abort _
  · exact hs.enterPlatform _

theorem startExit (h : s.FiguresSound) (c : WakeCause) : (s.startExit c).1.FiguresSound := by
  unfold State.startExit
  split
  · exact h
  · rename_i k _
    have hs : State.FiguresSound { s.setUpPlan k .exit none with wakeCause := some c } := h
    dsimp only
    split
    · exact hs.enterPlatform .waking
    · exact hs.enterPlatform .waking

theorem takeTrip (h : s.FiguresSound) (c : TripCause) : (s.takeTrip c).1.FiguresSound := by
  obtain ⟨-, e⟩ | ⟨-, e⟩ | ⟨-, -, e⟩ := takeTrip_cases s c
  · rw [e]
    exact h
  · rw [e]
    exact h
  · rw [e]
    have hs : State.FiguresSound (State.setUpPlan { s with
        undo := [], pendingWake := none, pendingRequest := false, requestStale := false, trip := s.trip.add c }
        6 .trip (some c.target)) := ⟨h.1, .nil⟩
    exact hs.enterPlatform .tripping

theorem enterRest (h : s.FiguresSound) (p : PlatformState) : (s.enterRest p).FiguresSound := h.enterPlatform p

theorem completeEntry (h : s.FiguresSound) : s.completeEntry.1.FiguresSound := by
  have hr : (State.enterRest { s with pendingWake := none } (entryRest s.ctx.slot)).FiguresSound :=
    enterRest (s := { s with pendingWake := none }) h _
  unfold State.completeEntry
  dsimp only
  split
  · exact hr
  · exact hr.startExit _

theorem completeExit (h : s.FiguresSound) : s.completeExit.1.FiguresSound := by
  have hr : (State.enterRest { s with pendingRequest := false } .run).FiguresSound :=
    enterRest (s := { s with pendingRequest := false }) h _
  unfold State.completeExit
  dsimp only
  split
  · exact hr.startEntry _
  · exact hr
  · exact hr

theorem completePlan (h : s.FiguresSound) : s.completePlan.1.FiguresSound := by
  cases hp : s.ctx.portion with
  | none => simpa only [State.completePlan, hp] using h
  | check | commit => simpa only [State.completePlan, hp] using h.applyPendingItems.completeEntry
  | exit => simpa only [State.completePlan, hp] using h.applyPendingItems.completeExit
  | rollback =>
    simp only [State.completePlan, hp]
    exact enterRest (s := { s.applyPendingItems with requestStale := s.applyPendingItems.requested != .run })
      h.applyPendingItems .run
  | trip =>
    rw [completePlan_trip hp]
    exact (h.sweepAll _).applyPendingItems.enterRest _

theorem sendOwn (h : s.FiguresSound) (p : Port) (sig : Byte) (l : Level) : (s.sendOwn p sig l).FiguresSound :=
  h.of_core (core_sendOwn s p sig l)

theorem recordEmit (h : s.FiguresSound) (p : Port) (sig : Byte) (l : Level) : (s.recordEmit p sig l).FiguresSound :=
  h.of_core (core_recordEmit s p sig l)

theorem emitStep (h : s.FiguresSound) (p : Port) (sig : Byte) (l : Level) : (s.emitStep p sig l).FiguresSound := by
  have hu : State.FiguresSound
      (if s.emitted p sig = l then s else s.pushUndo (.signal p sig (s.emitted p sig))) := by
    split
    · exact h
    · exact h.pushUndo _
  exact hu.of_core (by simp [State.emitStep])

theorem enableAccepted (h : s.FiguresSound) (d : DomainId) : (s.enableAccepted d).1.FiguresSound := by
  rw [enableAccepted_eq]
  dsimp only
  split
  · exact ((h.enableEffect d _).pushUndo _).completeStep
  · exact (h.enableEffect d _).completeStep

theorem enableStep (h : s.FiguresSound) (d : DomainId) : (s.enableStep d).1.FiguresSound := by
  unfold State.enableStep
  split
  · exact h.enableAccepted d
  · exact h.failStep
  · exact h.failStep
  · exact h.waitFor _

theorem disableStep (h : s.FiguresSound) (d : DomainId) : (s.disableStep d).1.FiguresSound := by
  cases hr : s.disableRefused d
  · rw [disableStep_eq s d hr]
    dsimp only
    split
    · exact ((h.disableEffect d).pushUndo _).completeStep
    · exact (h.disableEffect d).completeStep
  · simpa [State.disableStep, hr] using h.failStep

theorem guardStep (h : s.FiguresSound) (p : Port) (a : BitVec 4) (sig : Byte) (l : Level) :
    (s.guardStep p a sig l).1.FiguresSound := by
  unfold State.guardStep
  split
  · exact h.failStep
  · split
    · exact h.failStep
    · split
      · exact h.completeStep
      · exact h.waitFor _

theorem commitStep (h : s.FiguresSound) : s.commitStep.1.FiguresSound :=
  (enterPlatform (s := { s with ctx := { s.ctx with portion := .commit }, undo := [] }) ⟨h.1, .nil⟩ _).completeStep

theorem retryStep (h : s.FiguresSound) (t : Step) : (s.retryStep t).1.FiguresSound := by
  unfold State.retryStep
  split
  · exact h.completeStep
  · split
    · dsimp only
      split
      · exact h
      · exact h.failStep
    · exact h.failStep

theorem stepAction (h : s.FiguresSound) (t : Step) : (s.stepAction t).1.FiguresSound := by
  unfold State.stepAction
  split
  case h_1 d _ _ => exact h.enableStep d
  case h_2 d _ _ => exact h.disableStep d
  case h_3 d _ _ =>
    split
    · exact h.completeStep
    · exact h.waitFor _
  case h_4 d _ _ =>
    split
    · exact h.completeStep
    · exact h.waitFor _
  case h_5 p _ _ =>
    split
    · exact (h.emitStep p _ _).completeStep
    · exact h.waitFor _
  case h_6 p _ _ =>
    split
    · exact h.completeStep
    · exact h.waitFor _
  case h_7 p _ _ => exact h.guardStep p _ _ _
  case h_8 => exact h.waitFor _
  case h_9 => exact (h.enterPlatform _).waitFor _
  case h_10 => exact h.commitStep
  case h_11 => exact h.retryStep t
  all_goals exact h.failStep

theorem startStep (h : s.FiguresSound) (i : Nat) : (s.startStep i).1.FiguresSound := by
  obtain ⟨-, e⟩ | ⟨p, -, -, e⟩ | ⟨p, t, -, -, e⟩ := startStep_cases s i
  · rwa [e]
  · exact e ▸ h.completePlan
  · rw [e]
    exact stepAction (s := s.beginStep t i) h t

theorem recordEnabled (h : s.FiguresSound) (d : DomainId) : (s.recordEnabled d).1.FiguresSound := by
  rw [recordEnabled_eq]
  dsimp only
  split
  · exact h.enableEffect d _
  · exact (h.enableEffect d _).recordWait _ _

theorem recordOn (h : s.FiguresSound) (d : DomainId) : (s.recordOn d).1.FiguresSound := by
  unfold State.recordOn
  split
  · exact h.recordEnabled d
  all_goals exact h

theorem recordOff (h : s.FiguresSound) (d : DomainId) : (s.recordOff d).1.FiguresSound := by
  cases hr : s.disableRefused d
  · rw [recordOff_eq s d hr]
    dsimp only
    split
    · exact h.disableEffect d
    · split
      · exact h.disableEffect d
      · exact (h.disableEffect d).recordWait _ _
  · simp only [State.recordOff, hr, if_true]
    exact h

theorem recordSignal (h : s.FiguresSound) (p : Port) (sig : Byte) (l : Level) :
    (s.recordSignal p sig l).1.FiguresSound := by
  unfold State.recordSignal
  split
  · exact h.recordEmit p sig l
  · exact h.recordWait _ _

theorem nextRecord (h : s.FiguresSound) : s.nextRecord.1.FiguresSound := by
  unfold State.nextRecord
  split
  · exact h.completePlan
  · rename_i r rest hu
    have hrest : State.FiguresSound { s with
        undo := rest, ctx := { s.ctx with record := some r, wait := .idle, clock := .fine, startTick := s.fine } } := by
      have := h.2
      rw [State.UndoDistinct, hu] at this
      exact ⟨h.1, this.of_cons⟩
    dsimp only
    split
    · exact hrest.recordOn _
    · exact hrest.recordOff _
    · exact hrest.recordSignal _ _ _

/-! ## Reports and effects -/

theorem pinnedWaitTest (h : s.FiguresSound) : s.pinnedWaitTest.1.FiguresSound := by
  unfold State.pinnedWaitTest
  split <;> exact h

theorem takeOn (h : s.FiguresSound) (d : DomainId) : (s.takeOn d).1.FiguresSound := by
  unfold State.takeOn
  split
  · exact h.completeStep
  · split
    · exact h
    · exact h.pinnedWaitTest

theorem takeOff (h : s.FiguresSound) (d : DomainId) : (s.takeOff d).1.FiguresSound := by
  unfold State.takeOff
  split
  · exact h.completeStep
  · split <;> exact h

theorem takeFault (h : s.FiguresSound) (d : DomainId) (c : Bool) : (s.takeFault d c).1.FiguresSound := by
  unfold State.takeFault
  split
  · exact h.takeTrip _
  · exact h.pinnedWaitTest

theorem takeOverrange (h : s.FiguresSound) (d : DomainId) : (s.takeOverrange d).1.FiguresSound := by
  unfold State.takeOverrange
  split
  · split <;> exact h
  · split <;> exact h

theorem judgeDeferred (h : s.FiguresSound) (d : DomainId) : (s.judgeDeferred d).1.FiguresSound := by
  unfold State.judgeDeferred
  split
  · split
    · exact h.enableAccepted d
    · exact h.failStep
    · exact h.failStep
    · exact h
  · split
    · split
      · exact h.recordEnabled d
      all_goals exact h
    · exact h

theorem newRequest (h : s.FiguresSound) (r : Requested) : (s.newRequest r).1.FiguresSound := by
  obtain ⟨-, -, e⟩ | ⟨-, -, e⟩ | ⟨t, -, -, e⟩ | ⟨hc, -⟩ := newRequest_cases s r
  · exact e ▸ h.abort .cancel
  · exact e ▸ h.startExit .hub
  · exact e ▸ h.startEntry t
  · exact h.of_core hc

theorem requestEffect (h : s.FiguresSound) : s.requestEffect.1.FiguresSound := by
  unfold State.requestEffect
  dsimp only
  split
  · exact h
  · exact newRequest (s := { s with requested := s.computeRequested, requestStale := false }) h _

theorem tripEffect (h : s.FiguresSound) (l : Level) : (s.tripEffect l).1.FiguresSound := by
  unfold State.tripEffect
  split
  · exact h.takeTrip _
  · exact h

theorem vetoEffect (h : s.FiguresSound) (l : Level) : (s.vetoEffect l).1.FiguresSound := by
  unfold State.vetoEffect
  split
  · exact h.abort _
  · exact h

theorem releaseEffect (h : s.FiguresSound) (l : Level) : (s.releaseEffect l).1.FiguresSound := by
  unfold State.releaseEffect
  split
  · exact h.completeStep
  · exact h

theorem levelReport (h : s.FiguresSound) (p : Port) (a : BitVec 4) (sig : Byte) (l : Level) :
    (s.levelReport p a sig l).1.FiguresSound := by
  unfold State.levelReport
  split
  · exact h.completeStep
  · exact h

theorem handOff (h : s.FiguresSound) (n : SourceId) (e : CaptureEffect) : (s.handOff n e).1.FiguresSound := by
  cases e with
  | none => exact h
  | woke => exact h.startExit _
  | aborted => exact h.abort _
  | pended => exact h

theorem capture (h : s.FiguresSound) (n : SourceId) (e : CaptureEffect) : (s.capture n e).FiguresSound :=
  h.of_core (core_capture s n e)

theorem arrival (h : s.FiguresSound) (n : SourceId) : (s.arrival n).1.FiguresSound := by
  obtain ⟨-, e⟩ | ⟨-, e⟩ := arrival_cases s n
  · exact e ▸ (h.capture n _).handOff n _
  · rwa [e]

theorem arrivals (h : s.FiguresSound) (ns : List SourceId) : (s.arrivals ns).1.FiguresSound := by
  induction ns generalizing s with
  | nil => exact h
  | cons n ns ih => exact ih (h.arrival n)

theorem wakeEffect (h : s.FiguresSound) (n : SourceId) (l : Level) : (s.wakeEffect n l).1.FiguresSound := by
  unfold State.wakeEffect
  split
  · exact h.arrival n
  · exact h

theorem vetoWakeEffect (h : s.FiguresSound) (n : SourceId) (l : Level) : (s.vetoWakeEffect n l).1.FiguresSound :=
  (h.vetoEffect l).wakeEffect n l

theorem emitPlaced (h : s.FiguresSound) : s.emitPlaced.1.FiguresSound := by
  unfold State.emitPlaced
  split
  · split
    · exact (h.emitStep _ _ _).completeStep
    · exact h
  · exact h

theorem syncComplete (h : s.FiguresSound) : s.syncComplete.1.FiguresSound := by
  unfold State.syncComplete
  split
  · split
    · exact h.completeStep
    · exact h
  · exact h

theorem rollbackPlaced (h : s.FiguresSound) : s.rollbackPlaced.1.FiguresSound := by
  unfold State.rollbackPlaced
  split
  · split
    · exact h.recordEmit _ _ _
    · exact h
  · exact h

theorem portWentDown (h : s.FiguresSound) (p : Port) : (s.portWentDown p).1.FiguresSound := by
  unfold State.portWentDown
  split
  · split
    · exact (h.emitStep _ _ _).completeStep
    · exact h
  · split
    · exact h.completeStep
    · exact h
  · split
    · exact h.recordEmit _ _ _
    · exact h
  · exact h

theorem expireIf (h : s.FiguresSound) (k : Wait → Bool) : (s.expireIf k).1.FiguresSound := by
  unfold State.expireIf
  split
  · exact h.expireWait
  · exact h

end State.FiguresSound

end Sys2Proof.Machine
end

section
/-! # What a configuration request does to the sequencer's side and to the domain records -/

namespace Sys2Proof.Machine

open Sys2Proof

theorem stepOf_wf {l : List Nat} {t : Step} (h : stepOf l = some t) : t.wf = true := by
  unfold stepOf at h
  split at h
  · simp only [Option.bind_eq_bind, Option.bind_eq_some_iff, Option.ite_none_right_eq_some, Option.some.injEq] at h
    obtain ⟨_, -, _, -, _, -, _, -, _, -, _, -, hwf, rfl⟩ := h
    exact hwf
  · simp at h

theorem domainConfigOf_wf {l : List Nat} {c : DomainConfig} (h : domainConfigOf l = some c) : c.wf = true := by
  unfold domainConfigOf at h
  split at h
  · simp only [Option.bind_eq_bind, Option.bind_eq_some_iff, Option.ite_none_right_eq_some, Option.some.injEq] at h
    obtain ⟨_, -, _, -, _, -, _, -, hwf, rfl⟩ := h
    exact hwf
  · simp at h

/-- A staged set with a sound plan in place of one of its plans. -/
theorem ConfigSet.Sound.setPlan {c : ConfigSet} (h : c.Sound) (k : SlotId) {p : Plan}
    (hp : p.count ≤ 32 ∧ ∀ i : Fin 32, (p.steps.get i).wf = true) :
    ConfigSet.Sound { c with plans := c.plans.set k.val p k.isLt } := by
  refine ⟨fun j => ?_, h.2⟩
  dsimp only
  rw [get_set]
  split
  · exact hp
  · exact h.1 j

theorem romSet_sound : romSet.Sound := by
  unfold ConfigSet.Sound
  decide +kernel

/-- What a write can do to the sequencer's side and to the domain records: nothing, a new staged set that is sound
where the old one is, a counting enable, or an apply while no plan runs. -/
def WriteEffect (s t : State) : Prop :=
  t.core = s.core
    ∨ (∃ c, (s.staged.Sound → c.Sound) ∧ t = { s with staged := c })
    ∨ (∃ d b, t = s.setDom d ((s.dom d).setCounting b))
    ∨ ∃ sel, s.platform.planRunning = false ∧ t = s.applySelected sel

namespace WriteEffect

theorem refuse (s : State) (st : CfgStatus) : WriteEffect s (s.refuse st).1 := .inl rfl

theorem staged {s : State} {c : ConfigSet} (h : s.staged.Sound → c.Sound) : WriteEffect s { s with staged := c } :=
  .inr (.inl ⟨c, h, rfl⟩)

theorem writeHeader (s : State) (k : SlotId) (sel : List (Option Nat)) : WriteEffect s (s.writeHeader k sel).1 := by
  unfold State.writeHeader
  dsimp only
  split
  · split
    · rename_i hn
      exact staged fun h => h.setPlan k ⟨hn, (h.1 k).2⟩
    · exact refuse s _
  · exact refuse s _

theorem writeStep (s : State) (k : SlotId) (i : Fin 32) (sel : List (Option Nat)) :
    WriteEffect s (s.writeStep k i sel).1 := by
  unfold State.writeStep
  dsimp only
  split
  · rename_i t ht
    refine staged fun h => h.setPlan k ⟨(h.1 k).1, fun j => ?_⟩
    dsimp only
    rw [get_set]
    split
    · exact stepOf_wf ht
    · exact (h.1 k).2 j
  · exact refuse s _

theorem writeDomain (s : State) (d : DomainId) (sel : List (Option Nat)) : WriteEffect s (s.writeDomain d sel).1 := by
  unfold State.writeDomain
  split
  · rename_i c hc
    refine staged fun h => ⟨h.1, fun e => ?_⟩
    dsimp only
    rw [get_set]
    split
    · exact domainConfigOf_wf hc
    · exact h.2 e
  · exact refuse s _

theorem writeCounting (s : State) (d : DomainId) (sel : List (Option Nat)) :
    WriteEffect s (s.writeCounting d sel).1 := by
  unfold State.writeCounting
  split
  · exact .inr (.inr (.inl ⟨d, _, rfl⟩))
  · exact refuse s _

theorem writeSignal (s : State) (i : Fin 64) (sel : List (Option Nat)) : WriteEffect s (s.writeSignal i sel).1 := by
  unfold State.writeSignal
  dsimp only
  split
  · exact refuse s _
  · split
    · exact refuse s _
    · exact .inl rfl

theorem writeWake (s : State) (n : SourceId) (sel : List (Option Nat)) : WriteEffect s (s.writeWake n sel).1 := by
  unfold State.writeWake
  split
  · split <;> exact .inl rfl
  · split <;> exact .inl rfl

theorem writeAgent (s : State) (i : Fin 14) (sel : List (Option Nat)) : WriteEffect s (s.writeAgent i sel).1 := by
  unfold State.writeAgent
  split
  · exact refuse s _
  · split <;> exact .inl rfl

theorem writePattern (s : State) (k : Fin 4) (sel : List (Option Nat)) : WriteEffect s (s.writePattern k sel).1 := by
  unfold State.writePattern
  split
  · exact refuse s _
  · exact refuse s _
  · split
    · exact refuse s _
    · have times (t : State) (x : Option (Nat × Nat)) :
          State.core (match x with | some x => t.setTimes x | none => t) = t.core := by
        cases x <;> rfl
      have pattern (q : Option IndPattern) :
          State.core (match q with | some q => s.setPattern k q | none => s) = s.core := by
        cases q <;> rfl
      have first : State.core (if selectsPattern sel then
          (match s.writtenPattern k sel with | some q => s.setPattern k q | none => s) else s) = s.core := by
        split
        · exact pattern _
        · rfl
      refine .inl ?_
      dsimp only [accept]
      split
      · exact (times _ _).trans first
      · exact first

theorem command (s : State) (code arg : Nat) : WriteEffect s (s.command code arg).1 := by
  unfold State.command
  split
  case h_1 =>
    split
    · exact refuse s _
    · split
      · exact refuse s _
      · rename_i hp
        exact .inr (.inr (.inr ⟨_, by simpa using hp, rfl⟩))
  case h_2 =>
    split
    · exact refuse s _
    · exact .inl (core_markItems s _)
  case h_3 => split <;> exact .inl rfl
  case h_4 => split <;> exact .inl rfl
  case h_5 => exact staged fun _ => romSet_sound
  all_goals exact .inl rfl

theorem writeTable (s : State) (table index : Nat) (sel : List (Option Nat)) :
    WriteEffect s (s.writeTable table index sel).1 := by
  unfold State.writeTable
  split
  · exact command s _ _
  · split
    · exact writeHeader s _ _
    · exact refuse s _
  · split
    · exact writeStep s _ _ _
    · exact refuse s _
  · split
    · exact writeDomain s _ _
    · exact refuse s _
  · split
    · exact writeCounting s _ _
    · exact refuse s _
  · split
    · exact writeSignal s _ _
    · exact refuse s _
  · split
    · exact writeWake s _ _
    · exact refuse s _
  · split
    · exact writeAgent s _ _
    · exact refuse s _
  · split
    · exact writePattern s _ _
    · exact refuse s _
  · exact refuse s _

theorem executeWrite (s : State) (table index : Nat) (mask : BitVec 16) (values : List Byte) :
    WriteEffect s (s.executeWrite table index mask values).1 := by
  obtain e | ⟨n, -, -, e⟩ | ⟨sel, -, -, -, -, -, -, e⟩ := executeWrite_cases s table index mask values
  · exact .inl (congrArg State.core e)
  · exact .inl (congrArg (fun a => State.core a.1) e)
  · exact e ▸ writeTable s table index sel

end WriteEffect

/-- R85, R182: an executed request has the effect of a write, or clears a domain's change flag. -/
theorem execute_effect (s : State) (f : Frame) :
    WriteEffect s (s.execute f).1 ∨ ∃ d, (s.execute f).1 = s.setDom d { s.dom d with change := false } := by
  have read (table index : Nat) : WriteEffect s (s.executeRead table index).1
      ∨ ∃ d, (s.executeRead table index).1 = s.setDom d { s.dom d with change := false } := by
    unfold State.executeRead State.afterRead
    split
    · exact .inl (.inl rfl)
    · split
      · exact .inl (.inl rfl)
      · dsimp only
        split
        · exact .inl (.inl rfl)
        · exact .inr ⟨_, rfl⟩
  unfold State.execute
  dsimp only
  split
  · exact .inl (WriteEffect.executeWrite s _ _ _ _)
  all_goals exact read _ _

end Sys2Proof.Machine
end

section
/-! # How the commands begin

Each command either ends at once, beside the sequencer and the domains, or is an event with one of a few beginnings. -/

namespace Sys2Proof.Machine

open Sys2Proof

/-- The work that carries a plan or a rollback on. -/
def Work.drives : Work → Bool
  | .start _ | .rollback => true
  | .onReport _ | .offReport _ | .faultReport _ _ | .overrangeReport _ | .holdOver _ | .tripCause _ | .arrival _
  | .levelReport _ _ _ _ | .requestEffect | .tripEffect _ | .vetoEffect _ | .releaseEffect _ | .wakeEffect _ _
  | .vetoWakeEffect _ _ | .carry _ _ | .judge _ | .portDown _ | .serve | .settle _ => false

/-- No piece of this work carries a plan or a rollback on. -/
def Undriven (ws : List Work) : Prop := ∀ w ∈ ws, w.drives = false

@[simp] theorem undriven_nil : Undriven [] := nofun

@[simp] theorem undriven_cons {w : Work} {ws : List Work} : Undriven (w :: ws) ↔ w.drives = false ∧ Undriven ws := by
  simp [Undriven]

@[simp] theorem undriven_append {ws vs : List Work} : Undriven (ws ++ vs) ↔ Undriven ws ∧ Undriven vs := by
  simp only [Undriven, List.mem_append, or_imp, forall_and]

/-- What the event of a command begins with. -/
inductive State.Begins (s : State) : Act → Prop
  /-- A change beside the sequencer and the domains, and work that drives no plan. -/
  | aside {a : Act} (hc : a.1.core = s.core) (hw : Undriven a.2) : s.Begins a
  | reset (strap : Strap) (wakeA wakeB low : Bool) (pg : BitVec 10) : s.Begins (s.powerOn strap wakeA wakeB low pg, [])
  | autoOn (strap : Strap) (wakeA wakeB low : Bool) (pg : BitVec 10) :
      s.Begins ((s.powerOn strap wakeA wakeB low pg).startExit .powerRestore)
  | pgRise (d : DomainId) : s.Begins (s.pgRise d)
  | pgFall (d : DomainId) : s.Begins (s.pgFall d)
  | holdExpiry (d : DomainId) : s.Begins (s.holdExpiry d)
  | overrangeExpiry (d : DomainId) : s.Begins (s.overrangeExpiry d)
  | emitPlaced : s.Begins s.emitPlaced
  | syncComplete : s.Begins s.syncComplete
  | rollbackPlaced : s.Begins s.rollbackPlaced
  | expireIf (kind : Wait → Bool) : s.Begins (s.expireIf kind)
  | arrivals (l : WakeLine) (ns : List SourceId) : s.Begins ((s.setLine l true).arrivals ns)

theorem offerRequest_undriven (s : State) (f : Frame) : Undriven (s.offerRequest f).2 := by
  obtain ⟨h, -⟩ | ⟨-, -, h⟩ | ⟨-, -, -, h⟩ | ⟨-, -, h⟩ := offerRequest_cases s f <;> simp [h, Work.drives]

theorem receive_undriven (s : State) (p : Port) (bytes : List Byte) : Undriven (s.receive p bytes).2 := by
  obtain ⟨-, h⟩ | h | ⟨f, -, -, -, h⟩ := receive_cases s p bytes <;> simp [h, Work.drives]

theorem linkGoesDown_undriven (s : State) (p : Port) : Undriven (s.linkGoesDown p).2 := by
  unfold State.linkGoesDown
  split <;> simp [Work.drives]

theorem recognize_undriven (s : State) : Undriven s.recognize.2 := by
  unfold State.recognize
  split
  · simp
  · split <;> simp [Work.drives]

theorem overrideActs_undriven (s : State) : Undriven s.overrideActs.2 := by
  unfold State.overrideActs
  split
  · simp
  · dsimp only
    split <;> simp [Work.drives]

/-- An event with this beginning. -/
theorem event_begins {s t : State} {a : Act} (ha : s.Begins a) (h : s.event a = .next t) :
    t.core = s.core ∨ ∃ b a, s.Begins a ∧ finish b a = .next t :=
  .inr ⟨_, _, ha, h⟩

theorem request_begins {s t : State} {f : Frame} (h : s.request f = .next t) :
    t.core = s.core ∨ ∃ b a, s.Begins a ∧ finish b a = .next t :=
  event_begins (.aside (core_offerRequest s f) (offerRequest_undriven s f)) h

/-- Every command ends beside the sequencer and the domains, or is an event with one of the beginnings. -/
theorem exec_begins {c : Instr} {s t : State} (h : exec c s = .next t) :
    t.core = s.core ∨ ∃ b a, s.Begins a ∧ finish b a = .next t := by
  cases c with
  | powerOnReset strap wakeA wakeB low pg =>
    cases strap
    · exact .inr ⟨_, _, .autoOn .autoOn wakeA wakeB low pg, h⟩
    · exact .inr ⟨_, _, .reset .stayOff wakeA wakeB low pg, h⟩
  | linkUp p =>
    simp only [exec, execLinkUp] at h
    split at h
    · exact .inl (Host.Outcome.next.inj h ▸ rfl)
    · exact .inr ⟨_, _, .aside (core_linkGoesUp s p) undriven_nil, h⟩
  | linkDown p =>
    simp only [exec, execLinkDown] at h
    split at h
    · exact event_begins (.aside (core_linkGoesDown s p) (linkGoesDown_undriven s p)) h
    · exact .inl (Host.Outcome.next.inj h ▸ rfl)
  | frameReceived p bytes => exact event_begins (.aside (core_receive s p bytes) (receive_undriven s p bytes)) h
  | frameTaken p => exact event_begins (a := (s, [.judge p])) (.aside rfl (by simp [Work.drives])) h
  | partnerReadyAsserted p => exact event_begins (.aside (core_setPartnerReady s p true) undriven_nil) h
  | partnerReadyDeasserted p => exact event_begins (.aside (core_setPartnerReady s p false) undriven_nil) h
  | transmissionEnd p => exact event_begins (.aside (core_endTransmission s p) undriven_nil) h
  | noteQueued => exact event_begins (.aside (core_tryNote s) undriven_nil) h
  | emitFramePlaced => exact event_begins .emitPlaced h
  | syncComplete => exact event_begins .syncComplete h
  | rollbackSignalPlaced => exact event_begins .rollbackPlaced h
  | pgRise d => exact event_begins (.pgRise d) h
  | pgFall d => exact event_begins (.pgFall d) h
  | holdOffExpiry d => exact event_begins (.holdExpiry d) h
  | overrangeExpiry d => exact event_begins (.overrangeExpiry d) h
  | budgetExpiry => exact event_begins (.expireIf _) h
  | parkLimit => exact event_begins (.expireIf _) h
  | rollbackWaitExpiry => exact event_begins (.expireIf _) h
  | wakeLineAssertion l =>
    simp only [exec, execWakeLineAssertion, State.lineRises] at h
    split at h
    · exact event_begins (a := (s, [])) (.aside rfl undriven_nil) h
    · exact event_begins (.arrivals l _) h
  | wakeLineFallingEdge l => exact .inl (Host.Outcome.next.inj h ▸ core_setLine s l false)
  | pressEdge => exact .inl (Host.Outcome.next.inj h ▸ core_buttonFalls s)
  | release => exact event_begins (.aside (core_buttonRises s) undriven_nil) h
  | debounceExpiry => exact event_begins (.aside (core_recognize s) (recognize_undriven s)) h
  | overrideExpiry => exact event_begins (.aside (core_overrideActs s) (overrideActs_undriven s)) h
  | indicatorPhaseAdvance => exact .inl (Host.Outcome.next.inj h ▸ rfl)
  | applyNow | applyAtRest | clearNotices | setNoticeEnable | restoreStaged | clearTripRecord | clearCounters
  | stagedWrite | signalTableWrite | wakeTableWrite | captureRecordClear | agentTableWrite | countingEnableWrite
  | indicatorPatternWrite | buttonTimesWrite | domainStatusRead | cfgWr => exact request_begins h

end Sys2Proof.Machine
end
section
/-! # Every step keeps the sets, the ramp figures and the undo stack sound -/

namespace Sys2Proof.Machine

open Sys2Proof

namespace State.FiguresSound

variable {s t : State}

theorem writeEffect (h : s.FiguresSound) (e : WriteEffect s t) : t.FiguresSound := by
  obtain hc | ⟨c, hc, rfl⟩ | ⟨d, b, rfl⟩ | ⟨sel, -, rfl⟩ := e
  · exact h.of_core hc
  · exact h.withStaged (hc h.1.1.1)
  · exact h.setDom (r := (s.dom d).setCounting b) (h.dom d)
  · exact h.applySelected sel

theorem serveRequest (h : s.FiguresSound) : s.serveRequest.FiguresSound := by
  obtain ⟨f, rest, -, -, e⟩ | e := serveRequest_cases s
  · rw [e]
    refine of_core ?_ (core_respond _ _)
    have hq : (s.setQueue .cfgIn rest).FiguresSound := h
    obtain e | ⟨d, e⟩ := execute_effect (s.setQueue .cfgIn rest) f
    · exact hq.writeEffect e
    · exact e ▸ hq.setDom (r := { (s.setQueue .cfgIn rest).dom d with change := false }) (hq.dom d)
  · rwa [e]

theorem micro (h : s.FiguresSound) (w : Work) : (micro w s).1.FiguresSound := by
  cases w with
  | start i => exact h.startStep i
  | rollback => exact h.nextRecord
  | onReport d => exact h.takeOn d
  | offReport d => exact h.takeOff d
  | faultReport d c => exact h.takeFault d c
  | overrangeReport d => exact h.takeOverrange d
  | holdOver d => exact (h.judgeDeferred d).tryPinned d
  | tripCause c => exact h.takeTrip c
  | arrival n => exact h.arrival n
  | levelReport p a g l => exact h.levelReport p a g l
  | requestEffect => exact h.requestEffect
  | tripEffect l => exact h.tripEffect l
  | vetoEffect l => exact h.vetoEffect l
  | releaseEffect l => exact h.releaseEffect l
  | wakeEffect n l => exact h.wakeEffect n l
  | vetoWakeEffect n l => exact h.vetoWakeEffect n l
  | carry fate f => exact h.of_core (core_carryFate s fate f)
  | judge p => exact h.of_core (core_judgeHead s p)
  | portDown p => exact h.portWentDown p
  | serve => exact h.serveRequest
  | settle b => exact h.of_core (core_settle s b)

theorem powerOn (s : State) (strap : Strap) (wakeA wakeB low : Bool) (pg : BitVec 10) :
    (s.powerOn strap wakeA wakeB low pg).FiguresSound := by
  refine ⟨⟨⟨romSet_sound, romSet_sound⟩, fun d => ?_⟩, .nil⟩
  have hd : (s.powerOn strap wakeA wakeB low pg).dom d = poweredDomain pg d := by
    simp [State.powerOn, State.dom, get_eq_getElem]
  rw [hd]
  unfold poweredDomain
  dsimp only
  split <;> exact ⟨trivial, trivial, nofun, nofun, nofun⟩

theorem begins (h : s.FiguresSound) {a : Act} (ha : s.Begins a) : a.1.FiguresSound := by
  cases ha with
  | aside hc => exact h.of_core hc
  | reset => exact powerOn s _ _ _ _ _
  | autoOn => exact (powerOn s _ _ _ _ _).startExit _
  | pgRise d => exact h.pgRise d
  | pgFall d => exact h.pgFall d
  | holdExpiry d => exact h.holdExpiry d
  | overrangeExpiry d => exact h.overrangeExpiry d
  | emitPlaced => exact h.emitPlaced
  | syncComplete => exact h.syncComplete
  | rollbackPlaced => exact h.rollbackPlaced
  | expireIf kind => exact h.expireIf kind
  | arrivals l ns => exact arrivals (h.of_core (core_setLine s l true)) ns

theorem exec (h : s.FiguresSound) {c : Instr} (e : exec c s = .next t) : t.FiguresSound := by
  obtain hc | ⟨b, a, ha, hf⟩ := exec_begins e
  · exact h.of_core hc
  · exact event_keeps (P := fun _ u => u.FiguresSound) (fun w _ _ hu => hu.micro w) (h.begins ha) hf

end State.FiguresSound

end Sys2Proof.Machine

open Sys2Proof Sys2Proof.Machine in
/-- Settles O58: every piece of work keeps the records sound, and so does every command's beginning. -/
theorem stepKeepsSetsAndUndoSound : Obligations.StepKeepsSetsAndUndoSound := by
  intro s t hs hstep
  exact step_keeps (P := State.FiguresSound) (fun _ _ _ h e => h.exec e) (fun _ _ h => h)
    (fun _ h => h.of_core (core_tick _)) hs hstep
end

section
/-! # The domain controller keeps its invariant

An absent domain is OFF, the power-good of a domain fits its state, and the parent of an enabled domain is ON. -/

namespace Sys2Proof.Machine

open Sys2Proof

/-- R64, R66: the state of a record fits its configuration and its power-good. -/
def DomainRuntime.Fits (r : DomainRuntime) (c : DomainConfig) : Prop :=
  (c.present = false → r.state = .off) ∧ (r.state = .rising → r.pg = false)
    ∧ (r.state = .on ∨ r.state = .falling → r.pg = true)

theorem domainsSound_iff (s : State) :
    s.DomainsSound ↔
      graphOk s.active.domains = true
        ∧ ∀ d, (s.dom d).Fits (s.cfg d) ∧ ((s.dom d).state.enabled = true → s.parentReady d = true) := by
  simp only [State.DomainsSound, DomainRuntime.Fits, and_assoc]

theorem cfg_of_seqView {s t : State} (h : t.seqView = s.seqView) (d : DomainId) : t.cfg d = s.cfg d := by
  rw [State.cfg, State.cfg, (seqView_eq_iff.mp h).2.2.2.2]

theorem enabled_iff (x : DomainState) : x.enabled = true ↔ x = .rising ∨ x = .on := by
  cases x <;> simp [DomainState.enabled]

theorem parentReady_iff (s : State) (d : DomainId) :
    s.parentReady d = true ↔ ∀ p, (s.cfg d).parent = some p → (s.dom p).state = .on := by
  unfold State.parentReady State.isOn
  cases (s.cfg d).parent <;> simp

theorem DomainRuntime.Fits.present {r : DomainRuntime} {c : DomainConfig} (h : r.Fits c)
    (hs : r.state ≠ .off) : c.present = true := by
  by_contra hp
  exact hs (h.1 (by simpa using hp))

theorem fits_fault {r : DomainRuntime} {c : DomainConfig} (hp : c.present = true) (hs : r.state = .fault) :
    r.Fits c := by
  simp [DomainRuntime.Fits, hp, hs]

theorem fits_off {r : DomainRuntime} {c : DomainConfig} (hs : r.state = .off) : r.Fits c := by
  simp [DomainRuntime.Fits, hs]

/-- R67: an accepted request for a domain that is not enabled finds its parent ready. -/
theorem parentReady_of_accepted {s : State} {d : DomainId} (ha : s.judgeEnable d = .accepted)
    (hs : (s.dom d).state.enabled = false) : s.parentReady d = true := by
  unfold State.judgeEnable at ha
  split at ha
  · simp [*, DomainState.enabled] at hs
  · simp [*, DomainState.enabled] at hs
  · contradiction
  · split_ifs at ha with _ hp
    exact hp
  · split_ifs at ha with _ _ hp
    exact hp

@[simp] theorem cfg_notifyIf (s : State) (c : Bool) (n : Notice) (d : DomainId) : (s.notifyIf c n).cfg d = s.cfg d := by
  cases c <;> rfl

@[simp] theorem dom_notifyIf (s : State) (c : Bool) (n : Notice) (d : DomainId) : (s.notifyIf c n).dom d = s.dom d := by
  cases c <;> rfl

/-! ## The forest of parents -/

theorem graphRule_of_ok {ds : Vector DomainConfig 10} (h : graphOk ds = true) (d : DomainId) :
    graphRule ds d = true := List.all_eq_true.mp h d (mem_allDomains d)

/-- R167: no present domain is its own ancestor. -/
theorem not_reaches_self {ds : Vector DomainConfig 10} (h : graphOk ds = true) {d : DomainId}
    (hp : (ds.get d).present = true) : reachesDomain ds d 10 d = false := by
  have := graphRule_of_ok h d
  simp only [graphRule, hp, if_true, Bool.and_eq_true, Bool.not_eq_true'] at this
  exact this.1

theorem parent_ne_self {s : State} (h : graphOk s.active.domains = true) {d : DomainId}
    (hp : (s.cfg d).present = true) : (s.cfg d).parent ≠ some d := by
  intro e
  have := not_reaches_self h hp
  rw [State.cfg] at e
  simp [reachesDomain, e] at this

/-- R167: the parent of a pinned domain is pinned. -/
theorem parent_pinned {s : State} (h : graphOk s.active.domains = true) {d p : DomainId}
    (hd : (s.cfg d).pinned = true) (hp : (s.cfg d).parent = some p) : (s.cfg p).pinned = true := by
  have := graphRule_of_ok h d
  simp only [graphRule] at this
  simp only [State.cfg] at hd hp ⊢
  cases hpres : (s.active.domains.get d).present <;> simp_all

/-- The ancestor of a domain `n` parent fields up, along present domains. -/
def State.ancestor (s : State) : Nat → DomainId → Option DomainId
  | 0, d => some d
  | n + 1, d => if (s.cfg d).present then (s.cfg d).parent.bind (s.ancestor n) else none

theorem ancestor_succ_eq_some {s : State} {n : Nat} {d r : DomainId} :
    s.ancestor (n + 1) d = some r ↔
      (s.cfg d).present = true ∧ ∃ p, (s.cfg d).parent = some p ∧ s.ancestor n p = some r := by
  simp only [State.ancestor, Option.ite_none_right_eq_some, Option.bind_eq_some_iff]

theorem ancestor_add (s : State) (m n : Nat) (d : DomainId) :
    s.ancestor (m + n) d = (s.ancestor m d).bind (s.ancestor n) := by
  induction m generalizing d with
  | zero => simp [State.ancestor]
  | succ m ih =>
    rw [Nat.add_right_comm, State.ancestor, State.ancestor]
    cases (s.cfg d).present <;> cases (s.cfg d).parent <;> simp [ih]

theorem descends_iff (s : State) (root : DomainId) (n : Nat) (d : DomainId) :
    s.descends root n d = true ↔ ∃ k, k < n ∧ s.ancestor (k + 1) d = some root := by
  induction n generalizing d with
  | zero => simp [State.descends]
  | succ n ih =>
    simp only [State.descends, ancestor_succ_eq_some]
    cases hp : (s.cfg d).parent with
    | none => simp
    | some p =>
      simp only [Bool.and_eq_true, Bool.or_eq_true, beq_iff_eq, ih, ancestor_succ_eq_some, Option.some.injEq,
        exists_eq_left']
      constructor
      · rintro ⟨hpres, rfl | ⟨k, hk, h⟩⟩
        · exact ⟨0, by omega, hpres, rfl⟩
        · exact ⟨k + 1, by omega, hpres, ancestor_succ_eq_some.mpr h⟩
      · rintro ⟨k, hk, hpres, h⟩
        cases k with
        | zero => exact ⟨hpres, .inl (Option.some.inj h)⟩
        | succ k => exact ⟨hpres, .inr ⟨k, by omega, ancestor_succ_eq_some.mp h⟩⟩

theorem reaches_of_ancestor {s : State} {n k : Nat} {d r : DomainId} (hk : k < n)
    (h : s.ancestor (k + 1) d = some r) : reachesDomain s.active.domains r n d = true := by
  induction k generalizing n d with
  | zero =>
    obtain ⟨n, rfl⟩ : ∃ m, n = m + 1 := ⟨n - 1, by omega⟩
    obtain ⟨-, p, hp, hr⟩ := ancestor_succ_eq_some.mp h
    rw [State.cfg] at hp
    simp [reachesDomain, hp, Option.some.inj hr]
  | succ k ih =>
    obtain ⟨n, rfl⟩ : ∃ m, n = m + 1 := ⟨n - 1, by omega⟩
    obtain ⟨-, p, hp, hr⟩ := ancestor_succ_eq_some.mp h
    rw [State.cfg] at hp
    have hrest : reachesDomain s.active.domains r n p = true := ih (by omega) hr
    simp [reachesDomain, hp, hrest]

/-- A forest of ten domains has no path of eleven parent fields: of its first eleven domains two are the same. -/
theorem ancestor_eleven {s : State} (h : graphOk s.active.domains = true) (d : DomainId) : s.ancestor 11 d = none := by
  by_contra hne
  obtain ⟨root, hroot⟩ := Option.ne_none_iff_exists'.mp hne
  have node (i : Fin 11) : ∃ x, s.ancestor i.val d = some x ∧ (s.ancestor (11 - i.val) x).isSome := by
    have hsum : i.val + (11 - i.val) = 11 := by omega
    rw [← hsum, ancestor_add, Option.bind_eq_some_iff] at hroot
    obtain ⟨x, hx, hy⟩ := hroot
    exact ⟨x, hx, by simp [hy]⟩
  choose x hx hup using node
  obtain ⟨i, j, hij, hxij⟩ := Fintype.exists_ne_map_eq_of_card_lt x (by simp)
  wlog hlt : i.val < j.val generalizing i j
  · exact this j i hij.symm hxij.symm (by have := Fin.val_ne_of_ne hij; omega)
  have hloop : s.ancestor (j.val - i.val - 1 + 1) (x i) = some (x i) := by
    have hsum : i.val + (j.val - i.val - 1 + 1) = j.val := by omega
    have hj := hx j
    rw [← hsum, ancestor_add, hx i] at hj
    rw [hxij] at hj ⊢
    exact hj
  have hpres : (s.cfg (x i)).present = true := (ancestor_succ_eq_some.mp hloop).1
  have := not_reaches_self h hpres
  rw [reaches_of_ancestor (by omega) hloop] at this
  contradiction

/-- R78: the child of a descendant is a descendant. -/
theorem descends_of_parent {s : State} (h : graphOk s.active.domains = true) {root d p : DomainId}
    (hd : (s.cfg d).present = true) (hp : (s.cfg d).parent = some p) (hr : s.descends root 10 p = true) :
    s.descends root 10 d = true := by
  obtain ⟨k, hk, hroot⟩ := (descends_iff s root 10 p).mp hr
  have hup : s.ancestor (k + 1 + 1) d = some root := ancestor_succ_eq_some.mpr ⟨hd, p, hp, hroot⟩
  refine (descends_iff s root 10 d).mpr ⟨k + 1, ?_, hup⟩
  by_contra hlt
  obtain rfl : k = 9 := by omega
  rw [ancestor_eleven h] at hup
  contradiction

theorem descends_child {s : State} {d p : DomainId} (hd : (s.cfg d).present = true) (hp : (s.cfg d).parent = some p) :
    s.descends p 10 d = true :=
  (descends_iff s p 10 d).mpr ⟨0, by omega, ancestor_succ_eq_some.mpr ⟨hd, p, hp, rfl⟩⟩

/-! ## One record replaced -/

namespace State.DomainsSound

variable {s t : State} {d : DomainId} {r : DomainRuntime}

theorem graph (h : s.DomainsSound) : graphOk s.active.domains = true := h.1

theorem fits (h : s.DomainsSound) (d : DomainId) : (s.dom d).Fits (s.cfg d) := ((domainsSound_iff s).mp h).2 d |>.1

theorem ready (h : s.DomainsSound) (hd : (s.dom d).state.enabled = true) {p : DomainId}
    (hp : (s.cfg d).parent = some p) : (s.dom p).state = .on :=
  (parentReady_iff s d).mp (((domainsSound_iff s).mp h).2 d |>.2 hd) p hp

theorem of_eq (h : s.DomainsSound) (ha : t.active = s.active) (hd : t.domains = s.domains) : t.DomainsSound := by
  simp only [DomainsSound, State.dom, State.cfg, State.parentReady, State.isOn] at h ⊢
  rw [ha, hd]
  exact h

theorem of_core (h : s.DomainsSound) (hc : t.core = s.core) : t.DomainsSound := by
  obtain ⟨hv, hd⟩ := core_eq_iff.mp hc
  exact h.of_eq (seqView_eq_iff.mp hv).2.2.2.2 hd

/-- A record may be replaced by one that fits, with an enabled domain's parent ON, and with no enabled child left
behind where the domain leaves ON. -/
theorem setDom (h : s.DomainsSound) (hr : r.Fits (s.cfg d)) (hen : r.state.enabled = true → s.parentReady d = true)
    (hkids : (s.dom d).state = .on → r.state = .on
      ∨ ∀ e, (s.cfg e).parent = some d → (s.dom e).state.enabled = false) : (s.setDom d r).DomainsSound := by
  refine (domainsSound_iff _).mpr ⟨h.graph, fun e => ?_⟩
  by_cases hed : e = d
  · subst hed
    rw [State.dom_setDom_self]
    refine ⟨hr, fun he => (parentReady_iff _ _).mpr fun p hp => ?_⟩
    have hpres : (s.cfg e).present = true := hr.present (by rintro hoff; simp [hoff, DomainState.enabled] at he)
    have hne : p ≠ e := by rintro rfl; exact parent_ne_self h.graph hpres hp
    rw [State.dom_setDom_of_ne s r hne]
    exact (parentReady_iff s e).mp (hen he) p hp
  · rw [State.dom_setDom_of_ne s r hed]
    refine ⟨h.fits e, fun he => (parentReady_iff _ _).mpr fun p hp => ?_⟩
    have hon := h.ready he hp
    rw [dom_setDom]
    split
    · subst p
      exact (hkids hon).resolve_right fun hk => by rw [hk e hp] at he; contradiction
    · exact hon

theorem changeDom (h : s.DomainsSound) (hr : r.Fits (s.cfg d)) (hen : r.state.enabled = true → s.parentReady d = true)
    (hkids : (s.dom d).state = .on → r.state = .on
      ∨ ∀ e, (s.cfg e).parent = some d → (s.dom e).state.enabled = false) : (s.changeDom d r).DomainsSound :=
  h.setDom (r := { r with change := true }) hr hen hkids

/-- A change that leaves state and power-good. -/
theorem setDom_same (h : s.DomainsSound) (hs : r.state = (s.dom d).state) (hpg : r.pg = (s.dom d).pg) :
    (s.setDom d r).DomainsSound := by
  refine h.setDom ?_ (fun he => ?_) fun hon => .inl (hs.trans hon)
  · simpa only [DomainRuntime.Fits, hs, hpg] using h.fits d
  · rw [hs] at he
    exact (parentReady_iff s d).mpr fun p hp => h.ready he hp

/-! ## Enables -/

theorem tryPinned (h : s.DomainsSound) (d : DomainId) : (s.tryPinned d).DomainsSound := by
  obtain ⟨hdue, e⟩ | ⟨-, e⟩ := tryPinned_cases s d
  · rw [e]
    simp only [State.pinnedDue, Bool.and_eq_true, Bool.or_eq_true, beq_iff_eq, Bool.not_eq_true'] at hdue
    obtain ⟨⟨⟨⟨⟨hpres, -⟩, hs⟩, -⟩, hpg⟩, hready⟩ := hdue
    refine h.changeDom ?_ (fun _ => hready) fun hon => ?_
    · simp [DomainRuntime.Fits, DomainRuntime.rise, hpres, hpg]
    · rw [hon] at hs
      simp at hs
  · rwa [e]

theorem parentArrived (h : s.DomainsSound) (d : DomainId) : (s.parentArrived d).DomainsSound := by
  unfold State.parentArrived
  refine List.foldlRecOn _ _ h fun t ht c _ => ?_
  split
  · exact State.DomainsSound.tryPinned ht c
  · exact ht

theorem acceptEnable (h : s.DomainsSound) (hpres : (s.cfg d).present = true)
    (hs : (s.dom d).state.enabled = false) (hready : s.parentReady d = true) : (s.acceptEnable d).1.DomainsSound := by
  have hon : (s.dom d).state ≠ .on := by rintro hon; simp [hon, DomainState.enabled] at hs
  unfold State.acceptEnable
  dsimp only
  split
  · rename_i hpg
    dsimp only
    refine State.DomainsSound.parentArrived ?_ d
    refine h.changeDom ?_ (fun _ => hready) fun ho => absurd ho hon
    simp [DomainRuntime.Fits, DomainRuntime.rise, hpres, hpg]
  · rename_i hpg
    refine h.changeDom ?_ (fun _ => hready) fun ho => absurd ho hon
    simp [DomainRuntime.Fits, DomainRuntime.rise, hpres, hpg]

theorem enableEffect (h : s.DomainsSound) (hpres : (s.cfg d).present = true) (ha : s.judgeEnable d = .accepted) :
    (s.enableEffect d .accepted).1.DomainsSound := by
  obtain ⟨-, hs, e⟩ | e := enableEffect_cases s d .accepted
  · exact e ▸ h.acceptEnable hpres hs (parentReady_of_accepted ha hs)
  · rwa [e]

/-! ## Disables -/

theorem startHold (h : s.DomainsSound) (d : DomainId) : (s.startHold d).1.DomainsSound := by
  obtain ⟨-, e⟩ | ⟨-, e⟩ := startHold_cases s d
  · exact e ▸ h.setDom_same rfl rfl
  · exact e ▸ h.setDom_same rfl rfl

theorem enterOff (h : s.DomainsSound) (d : DomainId) (r : DomainRuntime)
    (hkids : (s.dom d).state = .on → ∀ e, (s.cfg e).parent = some d → (s.dom e).state.enabled = false) :
    (s.enterOff d r).1.DomainsSound :=
  startHold (h.changeDom (r := { r with state := .off }) (fits_off rfl) nofun fun hon => .inr (hkids hon)) d

theorem clearFault (h : s.DomainsSound) (hs : (s.dom d).state = .fault) : (s.clearFault d).1.DomainsSound := by
  have hpres : (s.cfg d).present = true := (h.fits d).present (by simp [hs])
  unfold State.clearFault
  split
  · rename_i hpg
    refine h.changeDom ?_ nofun fun hon => by simp [hs] at hon
    simp [DomainRuntime.Fits, DomainRuntime.fall, hpres, hpg]
  · exact h.changeDom (fits_off rfl) nofun fun hon => by simp [hs] at hon

/-- R69: a domain whose disable is not refused has no enabled child. -/
theorem noEnabledChild (h : s.DomainsSound) (hpin : (s.cfg d).pinned = false)
    (hen : (s.dom d).state.enabled = true) (hr : s.disableRefused d = false) (e : DomainId)
    (hp : (s.cfg e).parent = some d) : (s.dom e).state.enabled = false := by
  by_contra he
  have he : (s.dom e).state.enabled = true := by simpa using he
  have hpres : (s.cfg e).present = true := (h.fits e).present (by rintro hoff; simp [hoff, DomainState.enabled] at he)
  simp only [State.disableRefused, hpin, hen, Bool.not_false, Bool.true_and, State.childActive, List.any_eq_false] at hr
  have := hr e (mem_allDomains e)
  rw [enabled_iff] at he
  obtain he | he := he <;> simp [State.isChild, hpres, hp, he, DomainState.active] at this

theorem disableEffect (h : s.DomainsSound) (d : DomainId) : (s.disableEffect d).1.DomainsSound := by
  obtain ⟨-, e⟩ | ⟨hpin, hr, hen, e⟩ | ⟨-, hs, e⟩ | e := disableEffect_cases s d
  · exact e ▸ h.of_core (core_notify s .pinnedHit)
  · have hpres : (s.cfg d).present = true :=
      (h.fits d).present (by rintro hoff; simp [hoff, DomainState.enabled] at hen)
    have hkids := h.noEnabledChild hpin hen hr
    rw [e]
    unfold State.dropEnable
    dsimp only
    split
    · rename_i hpg
      refine h.changeDom ?_ nofun fun _ => .inr hkids
      simp [DomainRuntime.Fits, DomainRuntime.fall, hpres, hpg]
    · exact h.enterOff d _ fun _ => hkids
  · exact e ▸ h.clearFault hs
  · rwa [e]

end State.DomainsSound

/-! ## Faults -/

theorem startHold_dom_of_ne (s : State) {d e : DomainId} (h : e ≠ d) : (s.startHold d).1.dom e = s.dom e := by
  obtain ⟨-, hs⟩ | ⟨-, hs⟩ := startHold_cases s d <;> simp only [hs, State.dom_setDom_of_ne s _ h]

theorem startHold_state (s : State) (d e : DomainId) : ((s.startHold d).1.dom e).state = (s.dom e).state := by
  obtain ⟨-, hs⟩ | ⟨-, hs⟩ := startHold_cases s d <;> simp only [hs, dom_setDom] <;> split <;> simp [*]

theorem faultEntry_dom_of_ne (s : State) {d e : DomainId} (c : FaultCause) (h : e ≠ d) :
    (s.faultEntry d c).1.dom e = s.dom e :=
  (startHold_dom_of_ne _ h).trans (State.dom_setDom_of_ne s _ h)

@[simp] theorem count_state (r : DomainRuntime) (f : DomainStats → DomainStats) : (r.count f).state = r.state := by
  unfold DomainRuntime.count
  split <;> rfl

@[simp] theorem count_pg (r : DomainRuntime) (f : DomainStats → DomainStats) : (r.count f).pg = r.pg := by
  unfold DomainRuntime.count
  split <;> rfl

theorem faultEntry_state (s : State) (d : DomainId) (c : FaultCause) :
    ((s.faultEntry d c).1.dom d).state = .fault := by
  rw [State.faultEntry, startHold_state, State.changeDom_dom_self]
  simp

theorem faultAll_dom_of_not_mem (s : State) (c : FaultCause) {ds : List DomainId} {e : DomainId} (h : e ∉ ds) :
    (s.faultAll c ds).1.dom e = s.dom e := by
  induction ds generalizing s with
  | nil => rfl
  | cons d ds ih =>
    obtain ⟨hd, hds⟩ := not_or.mp (List.mem_cons.not.mp h)
    rw [faultAll_cons, ih _ hds, faultEntry_dom_of_ne s c hd]

theorem faultAll_state (s : State) (c : FaultCause) {ds : List DomainId} {e : DomainId}
    (h : e ∈ ds ∨ (s.dom e).state = .fault) : ((s.faultAll c ds).1.dom e).state = .fault := by
  induction ds generalizing s with
  | nil => simpa [State.faultAll] using h
  | cons d ds ih =>
    rw [faultAll_cons]
    refine ih _ ?_
    by_cases hed : e = d
    · exact .inr (hed ▸ faultEntry_state s d c)
    · rw [faultEntry_dom_of_ne s c hed]
      exact h.imp_left fun hm => (List.mem_cons.mp hm).resolve_left hed

theorem mem_cascade {s : State} {root d : DomainId} :
    d ∈ s.cascade root ↔ d ≠ root ∧ (s.dom d).state.enabled = true ∧ s.descends root 10 d = true := by
  simp [State.cascade, mem_allDomains, State.enableOut, and_assoc]

/-- R76, R78: a fault of a present domain leaves no enabled descendant behind. The root's own record need not be sound
before it: its power-good may have just fallen. -/
theorem faultDomain_sound {s : State} {d : DomainId} (c : FaultCause) (hg : graphOk s.active.domains = true)
    (hpres : (s.cfg d).present = true)
    (h : ∀ e, e ≠ d → (s.dom e).Fits (s.cfg e) ∧ ((s.dom e).state.enabled = true → s.parentReady e = true)) :
    (s.faultDomain d c).1.DomainsSound := by
  have hview : (s.faultDomain d c).1.seqView = s.seqView := by simp
  have same (e : DomainId) (hed : e ≠ d) (hc : e ∉ s.cascade d) : (s.faultDomain d c).1.dom e = s.dom e := by
    rw [faultDomain_eq, faultAll_dom_of_not_mem _ _ hc, faultEntry_dom_of_ne s c hed]
  have fault (e : DomainId) (hf : e = d ∨ e ∈ s.cascade d) : ((s.faultDomain d c).1.dom e).state = .fault := by
    refine faultAll_state _ _ (hf.symm.imp_right ?_)
    rintro rfl
    exact faultEntry_state s e c
  refine (domainsSound_iff _).mpr ⟨by rw [(seqView_eq_iff.mp hview).2.2.2.2]; exact hg, fun e => ?_⟩
  rw [cfg_of_seqView hview]
  by_cases hf : e = d ∨ e ∈ s.cascade d
  · have hp : (s.cfg e).present = true := by
      obtain rfl | hm := hf
      · exact hpres
      · obtain ⟨hed, hen, -⟩ := mem_cascade.mp hm
        exact (h e hed).1.present (by rintro hoff; simp [hoff, DomainState.enabled] at hen)
    exact ⟨fits_fault hp (fault e hf), by simp [fault e hf, DomainState.enabled]⟩
  · obtain ⟨hed, hc⟩ := not_or.mp hf
    rw [same e hed hc]
    refine ⟨(h e hed).1, fun hen => (parentReady_iff _ _).mpr fun p hp => ?_⟩
    rw [cfg_of_seqView hview] at hp
    have hon := (parentReady_iff s e).mp ((h e hed).2 hen) p hp
    have hep : (s.cfg e).present = true := (h e hed).1.present (by rintro hoff; simp [hoff, DomainState.enabled] at hen)
    have hpd : p ≠ d := by
      rintro rfl
      exact hc (mem_cascade.mpr ⟨hed, hen, descends_child hep hp⟩)
    have hpc : p ∉ s.cascade d := fun hm =>
      hc (mem_cascade.mpr ⟨hed, hen, descends_of_parent hg hep hp (mem_cascade.mp hm).2.2⟩)
    rwa [same p hpd hpc]

namespace State.DomainsSound

variable {s t : State} {d : DomainId}

theorem faultDomain (h : s.DomainsSound) (hpres : (s.cfg d).present = true) (c : FaultCause) :
    (s.faultDomain d c).1.DomainsSound :=
  faultDomain_sound c h.graph hpres fun e _ => ((domainsSound_iff s).mp h).2 e

theorem waitExpiry (h : s.DomainsSound) (d : DomainId) (forOn : Bool) : (s.waitExpiry d forOn).1.DomainsSound := by
  have ht : (s.timedOut d).DomainsSound := h.setDom_same (count_state _ _) (count_pg _ _)
  obtain ⟨-, hs, e⟩ | ⟨-, e⟩ := waitExpiry_cases s d forOn
  · exact e ▸ ht.faultDomain ((h.fits d).present (by simp [hs])) .timeout
  · rwa [e]

/-! ## Edges and expiries -/

theorem notifyIf (h : s.DomainsSound) (c : Bool) (n : Notice) : (s.notifyIf c n).DomainsSound :=
  h.of_core (core_notifyIf s c n)

theorem pgRise (h : s.DomainsSound) (d : DomainId) : (s.pgRise d).1.DomainsSound := by
  have hfits := h.fits d
  obtain ⟨-, e⟩ | ⟨hs, e⟩ | ⟨hs, hpres, e⟩ | ⟨hs, e⟩ := pgRise_cases s d
  · rwa [e]
  · have hoff : (s.dom d).state = .off ∨ (s.dom d).state = .on ∨ (s.dom d).state = .falling := hs.imp_left hfits.1
    refine e ▸ h.setDom ⟨hfits.1, fun hr => ?_, fun _ => rfl⟩ (fun hen => ?_) (fun hon => .inl hon)
    · simp [show (s.dom d).state = .rising from hr] at hoff
    · exact (parentReady_iff s d).mpr fun p hp => h.ready hen hp
  · have hready : s.parentReady d = true :=
      (parentReady_iff s d).mpr fun p hp => h.ready (by simp [hs, DomainState.enabled]) hp
    rw [e]
    dsimp only
    refine State.DomainsSound.parentArrived ?_ d
    refine (h.notifyIf _ _).changeDom ?_ (fun _ => ?_) fun _ => .inl rfl
    · simp [DomainRuntime.Fits, DomainRuntime.captureRise, hpres]
    · simpa only [parentReady_iff, cfg_notifyIf, dom_notifyIf] using hready
  · rw [e]
    refine h.setDom (r := { s.dom d with pg := true, stray := true }) ⟨hfits.1, fun hr => ?_, fun _ => rfl⟩
      (fun hen => ?_)
      (fun hon => .inl hon)
    · simp [show (s.dom d).state = .rising from hr] at hs
    · exact (parentReady_iff s d).mpr fun p hp => h.ready hen hp

theorem pgFall (h : s.DomainsSound) (d : DomainId) : (s.pgFall d).1.DomainsSound := by
  have hfits := h.fits d
  obtain ⟨-, e⟩ | ⟨hpg, hs, e⟩ | ⟨-, hpres, hs, e⟩ | ⟨-, -, hs, e⟩ | ⟨-, -, hs, e⟩ := pgFall_cases s d
  · rwa [e]
  · have hoff : (s.dom d).state = .off := hs.elim hfits.1 fun hr => by simp [hfits.2.1 hr] at hpg
    exact e ▸ h.setDom (fits_off hoff) (by simp [hoff, DomainState.enabled]) (by simp [hoff])
  · rw [e]
    refine faultDomain_sound .pgLost h.graph hpres fun f hfd => ?_
    rw [State.dom_setDom_of_ne s _ hfd]
    refine ⟨h.fits f, fun hen => (parentReady_iff _ _).mpr fun p hp => ?_⟩
    rw [dom_setDom]
    split
    · exact hs
    · exact h.ready hen hp
  · rw [e]
    refine (h.notifyIf _ _).enterOff d _ fun hon => ?_
    rw [dom_notifyIf, hs] at hon
    contradiction
  · have hfits' : DomainRuntime.Fits { s.dom d with pg := false } (s.cfg d) := by
      refine ⟨hfits.1, fun _ => rfl, fun hc => ?_⟩
      obtain hs | hs := hs <;> simp [hs] at hc
    have hdom : (s.setDom d { s.dom d with pg := false }).DomainsSound :=
      h.setDom hfits' (fun hen => (parentReady_iff s d).mpr fun p hp => h.ready hen hp) fun hon => .inl hon
    exact e ▸ hdom.tryPinned d

theorem holdExpiry (h : s.DomainsSound) (d : DomainId) : (s.holdExpiry d).1.DomainsSound := by
  unfold State.holdExpiry
  split
  · exact h.setDom_same rfl rfl
  · exact h

theorem overrangeExpiry (h : s.DomainsSound) (d : DomainId) : (s.overrangeExpiry d).1.DomainsSound := by
  unfold State.overrangeExpiry
  split
  · exact h.setDom_same rfl rfl
  · exact h

end State.DomainsSound

/-! ## The final sweep -/

/-- What stands while the sweep is under way: the records fit, and the parent of an enabled pinned domain is ON. -/
def State.SweepSound (s : State) : Prop :=
  graphOk s.active.domains = true
    ∧ ∀ d, (s.dom d).Fits (s.cfg d)
      ∧ ((s.cfg d).pinned = true → (s.dom d).state.enabled = true → s.parentReady d = true)

namespace State.SweepSound

variable {s : State} {d : DomainId} {r : DomainRuntime}

theorem setDom (h : s.SweepSound) (hpin : (s.cfg d).pinned = false) (hr : r.Fits (s.cfg d)) :
    (s.setDom d r).SweepSound := by
  refine ⟨h.1, fun e => ?_⟩
  rw [dom_setDom, State.cfg_setDom]
  split
  · subst e
    exact ⟨hr, fun hp => by simp [hpin] at hp⟩
  · refine ⟨(h.2 e).1, fun hp hen => (parentReady_iff _ _).mpr fun p hpar => ?_⟩
    have hne : p ≠ d := by
      rintro rfl
      simp [parent_pinned h.1 hp hpar] at hpin
    rw [State.dom_setDom_of_ne s r hne]
    exact (parentReady_iff s e).mp ((h.2 e).2 hp hen) p hpar

theorem startHold (h : s.SweepSound) (hpin : (s.cfg d).pinned = false) : (s.startHold d).1.SweepSound := by
  obtain ⟨-, e⟩ | ⟨-, e⟩ := startHold_cases s d
  · exact e ▸ h.setDom hpin (h.2 d).1
  · exact e ▸ h.setDom hpin (h.2 d).1

end State.SweepSound

theorem sweeps_iff (s : State) (d : DomainId) :
    s.sweeps d = true ↔ (s.cfg d).present = true ∧ (s.cfg d).pinned = false
      ∧ ((s.dom d).state.enabled = true ∨ (s.dom d).state = .fault) := by
  simp [State.sweeps, and_assoc]

theorem sweepDomain_dom_of_ne (s : State) {d e : DomainId} (h : e ≠ d) : (s.sweepDomain d).1.dom e = s.dom e := by
  obtain ⟨-, hs⟩ | ⟨-, -, hs⟩ | ⟨-, -, -, hs⟩ | ⟨-, -, -, hs⟩ := sweepDomain_cases s d
  · rw [hs]
  · rw [hs]
    unfold State.clearFault
    split <;> exact State.dom_setDom_of_ne s _ h
  · rw [hs]
    exact State.dom_setDom_of_ne s _ h
  · rw [hs, enterOff_eq]
    exact (startHold_dom_of_ne _ h).trans (State.dom_setDom_of_ne s _ h)

/-- R59: the sweep of a domain leaves it enabled only where it is pinned or absent. -/
theorem sweepDomain_not_enabled (s : State) (d : DomainId) (hp : (s.cfg d).pinned = false)
    (hpres : (s.dom d).state ≠ .off → (s.cfg d).present = true) :
    ((s.sweepDomain d).1.dom d).state.enabled = false := by
  obtain ⟨hw, hs⟩ | ⟨-, -, hs⟩ | ⟨-, -, -, hs⟩ | ⟨-, -, -, hs⟩ := sweepDomain_cases s d
  · rw [hs]
    by_contra hen
    have hen : (s.dom d).state.enabled = true := by simpa using hen
    have : s.sweeps d = true :=
      (sweeps_iff s d).mpr ⟨hpres (by rintro hoff; simp [hoff, DomainState.enabled] at hen), hp, .inl hen⟩
    simp [this] at hw
  · rw [hs]
    unfold State.clearFault
    split <;> simp [DomainRuntime.fall, DomainState.enabled]
  · rw [hs]
    simp [DomainRuntime.fall, DomainState.enabled]
  · rw [hs, enterOff_eq, startHold_state, State.changeDom_dom_self]
    rfl

namespace State.SweepSound

variable {s : State} {d : DomainId}

theorem sweepDomain (h : s.SweepSound) (d : DomainId) : (s.sweepDomain d).1.SweepSound := by
  obtain ⟨-, e⟩ | ⟨hw, hs, e⟩ | ⟨hw, -, hpg, e⟩ | ⟨hw, -, -, e⟩ := sweepDomain_cases s d
  · rwa [e]
  · obtain ⟨hpres, hpin, -⟩ := (sweeps_iff s d).mp hw
    rw [e]
    unfold State.clearFault
    split
    · rename_i hpg
      exact h.setDom hpin (by simp [DomainRuntime.Fits, DomainRuntime.fall, hpres, hpg])
    · exact h.setDom hpin (fits_off rfl)
  · obtain ⟨hpres, hpin, -⟩ := (sweeps_iff s d).mp hw
    rw [e]
    exact h.setDom hpin (by simp [DomainRuntime.Fits, DomainRuntime.fall, hpres, hpg])
  · obtain ⟨-, hpin, -⟩ := (sweeps_iff s d).mp hw
    rw [e]
    exact startHold (h.setDom hpin (fits_off rfl)) hpin

/-- R59: after the sweep of a list every enabled domain of it is pinned, and no domain has been enabled. -/
theorem sweepAll (h : s.SweepSound) (ds : List DomainId) :
    (s.sweepAll ds).1.SweepSound
      ∧ ∀ e, ((s.sweepAll ds).1.dom e).state.enabled = true →
          (s.dom e).state.enabled = true ∧ (e ∈ ds → (s.cfg e).pinned = true) := by
  induction ds generalizing s with
  | nil => exact ⟨h, fun e he => ⟨he, nofun⟩⟩
  | cons d ds ih =>
    obtain ⟨hsound, hrest⟩ := ih (h.sweepDomain d)
    rw [sweepAll_cons]
    refine ⟨hsound, fun e he => ?_⟩
    obtain ⟨hen, hpin⟩ := hrest e he
    rw [cfg_of_seqView (seqView_sweepDomain s d)] at hpin
    by_cases hed : e = d
    · subst hed
      have hp : (s.cfg e).pinned = true := by
        by_contra hp
        rw [sweepDomain_not_enabled s e (by simpa using hp) (h.2 e).1.present] at hen
        contradiction
      have hw : s.sweeps e = false := by
        simpa [hp] using (sweeps_iff s e).not
      simp only [State.sweepDomain, hw] at hen
      exact ⟨hen, fun _ => hp⟩
    · rw [sweepDomain_dom_of_ne s hed] at hen
      exact ⟨hen, fun hm => hpin ((List.mem_cons.mp hm).resolve_left hed)⟩

end State.SweepSound

theorem State.DomainsSound.finalSweep {s : State} (h : s.DomainsSound) : s.finalSweep.1.DomainsSound := by
  have hall := (domainsSound_iff s).mp h
  have hsweep : s.SweepSound := ⟨hall.1, fun d => ⟨(hall.2 d).1, fun _ => (hall.2 d).2⟩⟩
  obtain ⟨⟨hg, hrec⟩, hpin⟩ := hsweep.sweepAll allDomains
  unfold State.finalSweep
  refine (domainsSound_iff _).mpr ⟨hg, fun d => ⟨(hrec d).1, fun hen => (hrec d).2 ?_ hen⟩⟩
  rw [cfg_of_seqView (seqView_sweepAll s allDomains)]
  exact (hpin d hen).2 (mem_allDomains d)

end Sys2Proof.Machine
end

section
/-! # An apply keeps the active plans and the domains sound -/

namespace Sys2Proof.Machine

open Sys2Proof

/-! ## Live steps -/

theorem Plan.mem_live {p : Plan} {i : Nat} {t : Step} (h : p.step? i = some t) : (i, t) ∈ p.live := by
  have hi : i < p.count := by
    unfold Plan.step? at h
    split at h
    · assumption
    · contradiction
  simp only [Plan.live, List.mem_filterMap, List.mem_range]
  exact ⟨i, hi, by simp [h]⟩

theorem Plan.step?_of_mem_live {p : Plan} {x : Nat × Step} (h : x ∈ p.live) : p.step? x.1 = some x.2 := by
  simp only [Plan.live, List.mem_filterMap, List.mem_range, Option.map_eq_some_iff] at h
  obtain ⟨i, -, t, ht, rfl⟩ := h
  exact ht

/-- A plan has a step at every index up to that of one of its steps. -/
theorem Plan.step?_isSome_of_le {p : Plan} {i j : Nat} {t : Step} (h : p.step? j = some t) (hij : i ≤ j) :
    p.step? i ≠ none := by
  unfold Plan.step? at h ⊢
  split at h
  · have hj : j < 32 := by
      by_contra hge
      simp [hge] at h
    rw [if_pos (by omega), Vector.getElem?_eq_getElem (by omega)]
    simp
  · contradiction

theorem Plan.step?_commitIndex {p : Plan} {c : Nat} (h : p.commitIndex = some c) :
    ∃ t, p.step? c = some t ∧ t.kind = .commit := by
  unfold Plan.commitIndex at h
  obtain ⟨x, hx, rfl⟩ := Option.map_eq_some_iff.mp h
  exact ⟨x.2, Plan.step?_of_mem_live (List.mem_of_find?_eq_some hx), by simpa using List.find?_some hx⟩

/-- R168: an entry plan has a COMMIT step. -/
theorem commitIndex_of_entry {k : SlotId} {p : Plan} (hk : k.val ≤ 2) (h : planShape k p = true) :
    ∃ c, p.commitIndex = some c := by
  have hentry : entryShape p = true := by
    simp only [planShape, Bool.and_eq_true, Bool.or_eq_true, decide_eq_true_eq] at h
    exact h.1.resolve_left (by omega)
  have hone : (p.live.filter fun x => x.2.kind == .commit).length = 1 := by
    simp only [entryShape, Bool.and_eq_true, beq_iff_eq] at hentry
    exact hentry.1.1
  obtain ⟨x, hx⟩ := List.exists_mem_of_length_pos (l := p.live.filter fun x => x.2.kind == .commit) (by omega)
  have hfound : (p.live.find? fun x => x.2.kind == .commit).isSome := by
    rw [List.find?_isSome]
    exact ⟨x, (List.mem_filter.mp hx).1, (List.mem_filter.mp hx).2⟩
  obtain ⟨y, hy⟩ := Option.isSome_iff_exists.mp hfound
  exact ⟨y.1, by simp [Plan.commitIndex, hy]⟩

/-- R168: a RETRY step goes back. -/
theorem retryTarget_lt {k : SlotId} {p : Plan} {i : Nat} {t : Step} (h : planShape k p = true)
    (ht : p.step? i = some t) (hk : t.kind = .retry) : t.retryTarget < i := by
  simp only [planShape, Bool.and_eq_true, List.all_eq_true] at h
  have hshape := h.2 _ (Plan.mem_live ht)
  simp only [stepShape, Bool.and_eq_true] at hshape
  have hretry := hshape.2
  simp only [retryLegal, hk, bne_self_eq_false, Bool.false_or, Bool.and_eq_true, decide_eq_true_eq] at hretry
  exact hretry.1

/-! ## The copy of a domain set -/

theorem judgeDomainSet_success {s : State} {ds : Vector DomainConfig 10} (h : s.judgeDomainSet ds = .success) :
    graphOk ds = true ∧ s.referencesKept ds = true ∧ s.liveKept ds = true := by
  unfold State.judgeDomainSet at h
  split_ifs at h with h1 h2 h3
  exact ⟨by simpa using h1, by simpa using h2, by simpa using h3⟩

/-- R84: the copy takes this domain away. -/
def removed (old new : DomainConfig) : Bool := old.present && !new.present

theorem recordCopied_dom_of_ne (s : State) {d e : DomainId} (old new : DomainConfig) (h : e ≠ d) :
    (s.recordCopied d old new).dom e = s.dom e := by
  unfold State.recordCopied State.removeDomain
  dsimp only
  rw [State.dom_setDom_of_ne _ _ h]
  split
  · split
    · exact State.dom_setDom_of_ne s _ h
    · exact State.dom_setDom_of_ne s _ h
  · rfl

theorem recordCopied_dom_self (s : State) (d : DomainId) (old new : DomainConfig) :
    ((s.recordCopied d old new).dom d).state = (if removed old new then .off else (s.dom d).state)
      ∧ ((s.recordCopied d old new).dom d).pg = (s.dom d).pg := by
  unfold State.recordCopied State.removeDomain removed
  dsimp only
  rw [State.dom_setDom_self]
  cases old.present && !new.present
  · exact ⟨rfl, rfl⟩
  · by_cases hf : (s.dom d).state = .fault <;> simp [hf, DomainRuntime.rewindow]

theorem seqView_recordCopied (s : State) (d : DomainId) (old new : DomainConfig) :
    (s.recordCopied d old new).seqView = s.seqView := by
  unfold State.recordCopied State.removeDomain
  dsimp only
  rw [seqView_setDom]
  split
  · split <;> rfl
  · rfl

/-- R84: the records after the copy of a list of domains. -/
theorem recordsCopied (old new : DomainId → DomainConfig) (l : List DomainId) (s : State) (e : DomainId) :
    let t := l.foldl (fun t d => t.recordCopied d (old d) (new d)) s
    t.seqView = s.seqView ∧ (t.dom e).pg = (s.dom e).pg
      ∧ (t.dom e).state = if e ∈ l ∧ removed (old e) (new e) = true then .off else (s.dom e).state := by
  induction l generalizing s with
  | nil => simp
  | cons d l ih =>
    obtain ⟨hview, hpg, hstate⟩ := ih (s.recordCopied d (old d) (new d))
    simp only [List.foldl_cons]
    refine ⟨hview.trans (seqView_recordCopied s d _ _), ?_, ?_⟩
    · rw [hpg]
      by_cases hed : e = d
      · exact hed ▸ (recordCopied_dom_self s d _ _).2
      · rw [recordCopied_dom_of_ne s _ _ hed]
    · rw [hstate]
      by_cases hed : e = d
      · subst hed
        rw [(recordCopied_dom_self s e _ _).1]
        by_cases hr : removed (old e) (new e) = true <;> simp [hr]
      · rw [recordCopied_dom_of_ne s _ _ hed]
        simp [hed]

theorem seqView_pinnedCopied (s : State) (d : DomainId) (old new : DomainConfig) :
    (s.pinnedCopied d old new).seqView = s.seqView := by
  unfold State.pinnedCopied
  split
  · exact seqView_tryPinned s d
  · rfl

theorem seqView_copyDomainSet (s : State) (ds : Vector DomainConfig 10) :
    (s.copyDomainSet ds).seqView = { s.seqView with active := { s.active with domains := ds } } := by
  unfold State.copyDomainSet
  dsimp only
  refine List.foldlRecOn (motive := fun t => State.seqView t = _) _ _ ?_ fun t ht d _ => ?_
  · exact (recordsCopied s.active.domains.get ds.get allDomains
      { s with active := { s.active with domains := ds } } 0).1
  · exact (seqView_pinnedCopied t d _ _).trans ht

/-- R84: the state after the records have been copied, before the pinned domains are tested. -/
def State.recordsReplaced (s : State) (ds : Vector DomainConfig 10) : State :=
  allDomains.foldl (fun t d => t.recordCopied d (s.active.domains.get d) (ds.get d))
    { s with active := { s.active with domains := ds } }

theorem recordsReplaced_active (s : State) (ds : Vector DomainConfig 10) :
    (s.recordsReplaced ds).active = { s.active with domains := ds } :=
  congrArg SeqView.active (recordsCopied s.active.domains.get ds.get allDomains
    { s with active := { s.active with domains := ds } } 0).1

/-- R84: the copy keeps every power-good level, and every state but that of a domain it takes away. -/
theorem recordsReplaced_dom (s : State) (ds : Vector DomainConfig 10) (e : DomainId) :
    ((s.recordsReplaced ds).dom e).pg = (s.dom e).pg
      ∧ ((s.recordsReplaced ds).dom e).state
        = if removed (s.cfg e) (ds.get e) = true then .off else (s.dom e).state := by
  obtain ⟨-, hpg, hstate⟩ := recordsCopied s.active.domains.get ds.get allDomains
    { s with active := { s.active with domains := ds } } e
  simp only [mem_allDomains, true_and] at hstate
  exact ⟨hpg, hstate⟩

theorem recordsReplaced_state_of_ne_off {s : State} {ds : Vector DomainConfig 10} {e : DomainId}
    (h : ((s.recordsReplaced ds).dom e).state ≠ .off) : ((s.recordsReplaced ds).dom e).state = (s.dom e).state := by
  rw [(recordsReplaced_dom s ds e).2] at h ⊢
  split
  · rw [if_pos ‹_›] at h
    contradiction
  · rfl

/-- R167: an accepted domain set keeps the parents of the enabled domains ON, and the active domains present. -/
theorem liveKept_spec {s : State} {ds : Vector DomainConfig 10} (h : s.liveKept ds = true) (d : DomainId) :
    ((s.dom d).state.enabled = true → ∀ p, (ds.get d).parent = some p → (s.dom p).state = .on)
      ∧ ((s.dom d).state.active = true → (ds.get d).present = true) := by
  have hd := List.all_eq_true.mp h d (mem_allDomains d)
  simp only [Bool.and_eq_true, Bool.or_eq_true, Bool.not_eq_true'] at hd
  obtain ⟨hparent, hpresent⟩ := hd
  refine ⟨fun hen p hp => ?_, fun ha => hpresent.resolve_left (by simp [ha])⟩
  have := hparent.resolve_left (by simp [hen])
  simpa [hp, State.isOn] using this

/-- R84: a record after the copy fits its new configuration. -/
theorem recordsReplaced_fits {s : State} (h : s.DomainsSound) (ds : Vector DomainConfig 10) (d : DomainId) :
    ((s.recordsReplaced ds).dom d).Fits (ds.get d) := by
  obtain ⟨hpg, hstate⟩ := recordsReplaced_dom s ds d
  obtain ⟨habsent, hon, hlow⟩ := h.fits d
  refine ⟨fun hp => ?_, fun hs => ?_, fun hs => ?_⟩
  · rw [hstate]
    split
    · rfl
    · rename_i hr
      exact habsent (by simpa [removed, hp] using hr)
  · rw [hpg]
    exact hon ((recordsReplaced_state_of_ne_off (by simp [hs])).symm.trans hs)
  · rw [hpg]
    have hd := recordsReplaced_state_of_ne_off (s := s) (ds := ds) (e := d) (by obtain hs | hs := hs <;> simp [hs])
    exact hlow (hs.imp (hd.symm.trans ·) (hd.symm.trans ·))

theorem State.DomainsSound.recordsReplaced {s : State} (h : s.DomainsSound) {ds : Vector DomainConfig 10}
    (hgraph : graphOk ds = true) (hlive : s.liveKept ds = true) : (s.recordsReplaced ds).DomainsSound := by
  have hcfg (e : DomainId) : (s.recordsReplaced ds).cfg e = ds.get e := by rw [State.cfg, recordsReplaced_active]
  refine (domainsSound_iff _).mpr ⟨by rw [recordsReplaced_active]; exact hgraph, fun d => ?_⟩
  rw [hcfg]
  refine ⟨recordsReplaced_fits h ds d, fun hen => (parentReady_iff _ d).mpr fun p hp => ?_⟩
  have hd : ((s.recordsReplaced ds).dom d).state = (s.dom d).state :=
    recordsReplaced_state_of_ne_off (by rintro hoff; simp [hoff, DomainState.enabled] at hen)
  rw [hcfg] at hp
  have hon : (s.dom p).state = .on := (liveKept_spec hlive d).1 (hd ▸ hen) p hp
  have hpres : (ds.get p).present = true := (liveKept_spec hlive p).2 (by simp [hon, DomainState.active])
  rw [(recordsReplaced_dom s ds p).2, if_neg (by simp [removed, hpres])]
  exact hon

/-- R84, R167: the copy of an accepted domain set strands no enabled domain. -/
theorem State.DomainsSound.copyDomainSet {s : State} (h : s.DomainsSound) {ds : Vector DomainConfig 10}
    (hj : s.judgeDomainSet ds = .success) : (s.copyDomainSet ds).DomainsSound := by
  obtain ⟨hgraph, -, hlive⟩ := judgeDomainSet_success hj
  refine List.foldlRecOn _ _ (h.recordsReplaced hgraph hlive) fun t ht d _ => ?_
  unfold State.pinnedCopied
  split
  · exact State.DomainsSound.tryPinned ht d
  · exact ht

/-! ## The active plans -/

theorem namesDomain_eq_some {t : Step} {d : DomainId} (hp : t.place = .domain d)
    (hk : t.kind = .enable ∨ t.kind = .disable ∨ t.kind = .awaitGood ∨ t.kind = .awaitLow) :
    t.namesDomain = some d := by
  obtain hk | hk | hk | hk := hk <;> simp [Step.namesDomain, hk, hp]

theorem plansSound_of_active {s t : State} (h : s.PlansSound) (ha : t.active = s.active) : t.PlansSound := by
  simp only [State.PlansSound, State.cfg] at h ⊢
  rw [ha]
  exact h

/-- R167: an accepted domain set removes no domain that an active plan names. -/
theorem State.PlansSound.copyDomainSet {s : State} (h : s.PlansSound) {ds : Vector DomainConfig 10}
    (hj : s.judgeDomainSet ds = .success) : (s.copyDomainSet ds).PlansSound := by
  obtain ⟨-, hrefs, -⟩ := judgeDomainSet_success hj
  have hactive : (s.copyDomainSet ds).active = { s.active with domains := ds } :=
    congrArg SeqView.active (seqView_copyDomainSet s ds)
  intro k
  rw [hactive]
  obtain ⟨hcount, hshape, hsteps⟩ := h k
  refine ⟨hcount, hshape, fun i t ht => ⟨fun hk => ?_, (hsteps i t ht).2⟩⟩
  obtain ⟨d, hd, hpres⟩ := (hsteps i t ht).1 hk
  refine ⟨d, hd, ?_⟩
  have hnames : s.planNames d = true := by
    simp only [State.planNames, List.any_eq_true]
    exact ⟨k, List.mem_finRange k, (i, t), Plan.mem_live ht, by simp [namesDomain_eq_some hd hk]⟩
  have hkept := List.all_eq_true.mp hrefs d (mem_allDomains d)
  rw [State.cfg, hactive]
  simpa [hpres, hnames] using hkept

theorem judgePlan_success {s : State} {k : SlotId} {p : Plan} (h : s.judgePlan k p = .success) :
    p.count ≠ 0 ∧ planShape k p = true ∧ ∀ x ∈ p.live, s.stepReference x.2 = true := by
  unfold State.judgePlan at h
  split_ifs at h with h1 h2 h3
  exact ⟨h1, by simpa using h2, by simpa using h3⟩

/-- R168: a step that passes the reference test names what its kind asks for. -/
theorem stepReference_spec {s : State} {t : Step} (h : s.stepReference t = true) :
    (t.kind = .enable ∨ t.kind = .disable ∨ t.kind = .awaitGood ∨ t.kind = .awaitLow →
        ∃ d, t.place = .domain d ∧ (s.cfg d).present = true)
      ∧ (t.kind = .emit ∨ t.kind = .sync ∨ t.kind = .guard → ∃ p, t.place = .port p) := by
  unfold State.stepReference at h
  cases hp : t.place with
  | domain d =>
    refine ⟨fun hk => ⟨d, rfl, ?_⟩, fun hk => ?_⟩
    · obtain hk | hk | hk | hk := hk <;> simpa [hk, hp] using h
    · obtain hk | hk | hk := hk <;> simp [hk, hp] at h
  | port p =>
    refine ⟨fun hk => ?_, fun _ => ⟨p, rfl⟩⟩
    obtain hk | hk | hk | hk := hk <;> simp [hk, hp] at h

theorem State.PlansSound.copyPlan {s : State} (h : s.PlansSound) {k : SlotId} {p : Plan}
    (hj : s.judgePlan k p = .success) : (s.copyPlan k p).PlansSound := by
  obtain ⟨hcount, hshape, hrefs⟩ := judgePlan_success hj
  intro j
  simp only [State.copyPlan]
  rw [get_set]
  split
  · subst j
    exact ⟨hcount, hshape, fun i t ht => stepReference_spec (hrefs _ (Plan.mem_live ht))⟩
  · exact h j

/-! ## Applies -/

/-- What an apply leaves of the sequencer's side: all but the active set. -/
def State.ApplyFrame (s t : State) : Prop := t.platform = s.platform ∧ t.ctx = s.ctx ∧ t.undo = s.undo

/-- An apply leaves the sequencer's side and keeps the active plans and the domains sound. -/
def State.ApplySound (s t : State) : Prop :=
  s.ApplyFrame t ∧ (s.PlansSound ∧ s.DomainsSound → t.PlansSound ∧ t.DomainsSound)

namespace State.ApplySound

variable {s t u : State}

theorem refl (s : State) : s.ApplySound s := ⟨⟨rfl, rfl, rfl⟩, id⟩

theorem trans (h : s.ApplySound t) (k : t.ApplySound u) : s.ApplySound u := by
  obtain ⟨⟨hp, hc, hu⟩, hs⟩ := h
  obtain ⟨⟨kp, kc, ku⟩, ks⟩ := k
  exact ⟨⟨kp.trans hp, kc.trans hc, ku.trans hu⟩, fun h => ks (hs h)⟩

theorem of_core (h : t.core = s.core) : s.ApplySound t := by
  obtain ⟨hp, hc, hu, -, ha⟩ := seqView_eq_iff.mp (seqView_of_core h)
  exact ⟨⟨hp, hc, hu⟩, fun ⟨hplans, hdoms⟩ => ⟨plansSound_of_active hplans ha, hdoms.of_core h⟩⟩

theorem applyDomains (s : State) : s.ApplySound s.applyDomains := by
  unfold State.applyDomains
  dsimp only
  refine trans ?_ (of_core (core_setOutcome _ _ _))
  split
  · rename_i hj
    have hview := seqView_copyDomainSet s s.staged.domains
    exact ⟨⟨congrArg SeqView.platform hview, congrArg SeqView.ctx hview, congrArg SeqView.undo hview⟩,
      fun ⟨hplans, hdoms⟩ => ⟨hplans.copyDomainSet hj, hdoms.copyDomainSet hj⟩⟩
  · exact refl s

theorem applyPlan (s : State) (k : SlotId) : s.ApplySound (s.applyPlan k) := by
  unfold State.applyPlan
  dsimp only
  refine trans ?_ (of_core (core_setOutcome _ _ _))
  split
  · rename_i hj
    exact ⟨⟨rfl, rfl, rfl⟩, fun ⟨hplans, hdoms⟩ => ⟨hplans.copyPlan hj, hdoms⟩⟩
  · exact refl s

theorem applySelected (s : State) (sel : ItemId → Bool) : s.ApplySound (s.applySelected sel) := by
  unfold State.applySelected
  split
  · refine trans ?_ (of_core (core_notify _ _))
    unfold State.applyItems
    refine List.foldlRecOn (motive := s.ApplySound) _ _ ?_ fun t ht k _ => ?_
    · split
      · exact applyDomains s
      · exact refl s
    · split
      · exact ht.trans (applyPlan t k)
      · exact ht
  · exact refl s

end State.ApplySound

end Sys2Proof.Machine
end

section
/-! # The flow of plans within an event

Between two pieces of work of one event the sequencer's context is not yet one of those of `SequencerSound`: a plan is
carried on by a `start` or a `rollback` in the work still to do. What holds there is `FlowSound` of the state, and
`Orderly` of the work: at most one piece carries a plan on, it fits the portion, and only reports that find nothing
waiting stand before it. -/

namespace Sys2Proof.Machine

open Sys2Proof

/-! ## The invariant -/

/-- A wait of a plan's step. -/
def Wait.ofPlan : Wait → Bool
  | .enable _ | .good _ | .low _ | .delay | .space _ _ _ | .drain _ | .level _ _ _ _ | .release => true
  | .idle | .pinned | .rollbackEnable _ | .rollbackGood _ | .rollbackLow _ | .rollbackSpace _ _ _ => false

/-- A wait of a rollback's record. -/
def Wait.ofRollback : Wait → Bool
  | .rollbackEnable _ | .rollbackGood _ | .rollbackLow _ | .rollbackSpace _ _ _ => true
  | .idle | .pinned | .enable _ | .good _ | .low _ | .delay | .space _ _ _ | .drain _ | .level _ _ _ _ | .release =>
    false

/-- A portion whose steps are started one after another. -/
def Portion.stepped : Portion → Bool
  | .check | .commit | .exit | .trip => true
  | .none | .rollback => false

/-- The step at this index may start: a plan's steps are under way, and in the check portion the index is not past the
COMMIT step. -/
def MayStart (c : PlanContext) (a : ConfigSet) (i : Nat) : Prop :=
  c.portion.stepped = true
    ∧ (c.portion = .check → ∃ k, ((c.slot.map a.plans.get).bind Plan.commitIndex) = some k ∧ i ≤ k)

/-- What a platform state, a context, an undo stack and an active set keep between two pieces of work. -/
structure Flow (p : PlatformState) (c : PlanContext) (u : List UndoRecord) (a : ConfigSet) : Prop where
  records : ∀ d b, .domain d b ∈ u ∨ c.record = some (.domain d b) → (a.domains.get d).present = true
  present : ∀ d, c.wait = .enable d ∨ c.wait = .rollbackEnable d → (a.domains.get d).present = true
  planWait : c.wait.ofPlan = true → MayStart c a (c.index + 1)
  pinnedWait : c.wait = .pinned → c.portion = .exit
  rollbackWait : c.wait.ofRollback = true → c.portion = .rollback
  undo : c.portion ≠ .check → c.portion ≠ .rollback → u = []
  record : c.portion = .none → c.record = none
  rest : p.planRunning = false → c.portion = .none

/-- What a state keeps between two pieces of work. -/
structure State.FlowSound (s : State) : Prop where
  plans : s.PlansSound
  domains : s.DomainsSound
  flow : Flow s.platform s.ctx s.undo s.active

/-- A report that does nothing while nothing waits. -/
def Work.quiet : Work → Bool
  | .onReport _ | .offReport _ | .holdOver _ => true
  | .start _ | .rollback | .faultReport _ _ | .overrangeReport _ | .tripCause _ | .arrival _ | .levelReport _ _ _ _
  | .requestEffect | .tripEffect _ | .vetoEffect _ | .releaseEffect _ | .wakeEffect _ _ | .vetoWakeEffect _ _
  | .carry _ _ | .judge _ | .portDown _ | .serve | .settle _ => false

/-- This piece of work may carry the plan on now. -/
def Ready (c : PlanContext) (a : ConfigSet) (w : Work) : Prop :=
  c.wait = .idle ∧ ((∃ i, w = .start i ∧ MayStart c a i) ∨ (w = .rollback ∧ c.portion = .rollback))

/-- At most one piece of the work carries a plan on, and it is ready. -/
def Orderly (c : PlanContext) (a : ConfigSet) (ws : List Work) : Prop :=
  Undriven ws
    ∨ ∃ pre w post, ws = pre ++ w :: post ∧ (∀ x ∈ pre, x.quiet = true) ∧ Ready c a w ∧ Undriven post

/-- A state with the work that its change has set off keeps the flow. -/
def FlowAct (x : Act) : Prop := x.1.FlowSound ∧ Orderly x.1.ctx x.1.active x.2

/-! ## Work -/

theorem undriven_of_quiet {ws : List Work} (h : ∀ x ∈ ws, x.quiet = true) : Undriven ws := by
  intro w hw
  have := h w hw
  cases w <;> simp_all [Work.quiet, Work.drives]

theorem Orderly.driver {c : PlanContext} {a : ConfigSet} {w : Work} (h : Ready c a w) : Orderly c a [w] :=
  .inr ⟨[], w, [], rfl, nofun, h, undriven_nil⟩

theorem Orderly.start {c : PlanContext} {a : ConfigSet} {i : Nat} (hw : c.wait = .idle) (h : MayStart c a i) :
    Orderly c a [.start i] :=
  .driver ⟨hw, .inl ⟨i, rfl, h⟩⟩

theorem Orderly.rollback {c : PlanContext} {a : ConfigSet} (hw : c.wait = .idle) (h : c.portion = .rollback) :
    Orderly c a [.rollback] :=
  .driver ⟨hw, .inr ⟨rfl, h⟩⟩

theorem Orderly.append {c : PlanContext} {a : ConfigSet} {ws vs : List Work} (h : Orderly c a ws)
    (hv : Undriven vs) : Orderly c a (ws ++ vs) := by
  obtain h | ⟨pre, w, post, rfl, hpre, hw, hpost⟩ := h
  · exact .inl (undriven_append.mpr ⟨h, hv⟩)
  · exact .inr ⟨pre, w, post ++ vs, by simp, hpre, hw, undriven_append.mpr ⟨hpost, hv⟩⟩

theorem Orderly.prepend {c : PlanContext} {a : ConfigSet} {ws vs : List Work} (hv : ∀ x ∈ vs, x.quiet = true)
    (h : Orderly c a ws) : Orderly c a (vs ++ ws) := by
  obtain h | ⟨pre, w, post, rfl, hpre, hw, hpost⟩ := h
  · exact .inl (undriven_append.mpr ⟨undriven_of_quiet hv, h⟩)
  · refine .inr ⟨vs ++ pre, w, post, by simp, fun x hx => ?_, hw, hpost⟩
    exact (List.mem_append.mp hx).elim (hv x) (hpre x)

theorem FlowAct.append {x : Act} (h : FlowAct x) {vs : List Work} (hv : Undriven vs) : FlowAct (x.1, x.2 ++ vs) :=
  ⟨h.1, h.2.append hv⟩

theorem FlowAct.prepend {x : Act} (h : FlowAct x) {vs : List Work} (hv : ∀ w ∈ vs, w.quiet = true) :
    FlowAct (x.1, vs ++ x.2) :=
  ⟨h.1, h.2.prepend hv⟩

theorem FlowAct.undriven {s : State} (h : s.FlowSound) {ws : List Work} (hw : Undriven ws) : FlowAct (s, ws) :=
  ⟨h, .inl hw⟩

theorem FlowAct.nil {s : State} (h : s.FlowSound) : FlowAct (s, []) := .undriven h undriven_nil

/-! ## The context -/

namespace Flow

variable {p : PlatformState} {c c' : PlanContext} {u : List UndoRecord} {a : ConfigSet}

/-- The context may change but for its portion where nothing waits after it. -/
theorem of_idle (h : Flow p c u a) (hw : c'.wait = .idle) (hp : c'.portion = c.portion)
    (hr : c'.record = c.record ∨ c'.record = none) : Flow p c' u a where
  records d b hm := h.records d b (hm.imp_right fun he => by
    obtain hr | hr := hr
    · rw [← hr, he]
    · simp [hr] at he)
  present d hm := by simp [hw] at hm
  planWait hm := by simp [hw, Wait.ofPlan] at hm
  pinnedWait hm := by simp [hw] at hm
  rollbackWait hm := by simp [hw, Wait.ofRollback] at hm
  undo := hp ▸ h.undo
  record hn := hr.elim (fun e => e.trans (h.record (hp ▸ hn))) id
  rest hn := hp.trans (h.rest hn)

/-- A wait begins that fits the portion. -/
theorem of_wait {w : Wait} (h : Flow p c u a)
    (hpres : ∀ d, w = .enable d ∨ w = .rollbackEnable d → (a.domains.get d).present = true)
    (hplan : w.ofPlan = true → MayStart c a (c.index + 1)) (hpin : w = .pinned → c.portion = .exit)
    (hroll : w.ofRollback = true → c.portion = .rollback) : Flow p { c with wait := w } u a :=
  ⟨h.records, hpres, hplan, hpin, hroll, h.undo, h.record, h.rest⟩

/-- The platform enters a state in which a plan runs. -/
theorem running {q : PlatformState} (h : Flow p c u a) (hq : q.planRunning = true) : Flow q c u a :=
  ⟨h.records, h.present, h.planWait, h.pinnedWait, h.rollbackWait, h.undo, h.record, by simp [hq]⟩

/-- At rest the context is released. -/
theorem released (q : PlatformState) (a : ConfigSet) : Flow q releasedContext [] a :=
  ⟨by simp [releasedContext], by simp [releasedContext], nofun, nofun, nofun, fun _ _ => rfl, fun _ => rfl,
    fun _ => rfl⟩

theorem idle_of_none (h : Flow p c u a) (hn : c.portion = .none) : c.wait = .idle := by
  cases hw : c.wait with
  | idle => rfl
  | pinned => simp [h.pinnedWait hw] at hn
  | rollbackEnable | rollbackGood | rollbackLow | rollbackSpace =>
    have := h.rollbackWait (by simp [hw, Wait.ofRollback])
    simp [this] at hn
  | enable | good | low | delay | space | drain | level | release =>
    have := (h.planWait (by simp [hw, Wait.ofPlan])).1
    simp [hn, Portion.stepped] at this

end Flow

namespace State.FlowSound

variable {s t : State}

/-- The flow of a state with another core: its plans, its domains, and the flow of its context. -/
theorem of_seqView (h : s.FlowSound) (hv : t.seqView = s.seqView) (hd : t.DomainsSound) : t.FlowSound := by
  obtain ⟨hp, hc, hu, -, ha⟩ := seqView_eq_iff.mp hv
  refine ⟨plansSound_of_active h.plans ha, hd, ?_⟩
  rw [hp, hc, hu, ha]
  exact h.flow

theorem of_core (h : s.FlowSound) (hc : t.core = s.core) : t.FlowSound :=
  h.of_seqView (seqView_of_core hc) (h.domains.of_core hc)

theorem withCtx (h : s.FlowSound) {c : PlanContext} (hc : Flow s.platform c s.undo s.active) :
    State.FlowSound { s with ctx := c } :=
  ⟨h.plans, h.domains, hc⟩

theorem setIdle (h : s.FlowSound) : (s.setWait .idle).FlowSound := h.withCtx (h.flow.of_idle rfl rfl (.inl rfl))

theorem enters (hplans : s.PlansSound) (hdoms : s.DomainsSound) {q : PlatformState}
    (h : Flow q s.ctx s.undo s.active) : (s.enterPlatform q).FlowSound := by
  refine ⟨plansSound_of_active hplans (by simp), hdoms.of_eq (by simp) (by simp), ?_⟩
  have hp : (s.enterPlatform q).platform = q := by
    unfold State.enterPlatform
    split
    · exact Eq.symm ‹_›
    · rfl
  rw [hp, State.enterPlatform_ctx, State.enterPlatform_undo, State.enterPlatform_active]
  exact h

theorem enterPlatform (h : s.FlowSound) {q : PlatformState} (hq : q.planRunning = true) :
    (s.enterPlatform q).FlowSound :=
  enters h.plans h.domains (h.flow.running hq)

theorem leavePark (h : s.FlowSound) : s.leavePark.FlowSound := by
  obtain ⟨-, e⟩ | ⟨-, e⟩ := leavePark_cases s
  · exact e ▸ h.enterPlatform rfl
  · rwa [e]

end State.FlowSound

/-- A platform state is entered with work that the context allows. -/
theorem FlowAct.enters {s : State} {q : PlatformState} {ws : List Work} (hplans : s.PlansSound)
    (hdoms : s.DomainsSound) (h : Flow q s.ctx s.undo s.active) (hw : Orderly s.ctx s.active ws) :
    FlowAct (s.enterPlatform q, ws) := by
  refine ⟨State.FlowSound.enters hplans hdoms h, ?_⟩
  rwa [State.enterPlatform_ctx, State.enterPlatform_active]

@[simp] theorem leavePark_ctx (s : State) : s.leavePark.ctx = s.ctx := by
  obtain ⟨-, e⟩ | ⟨-, e⟩ := leavePark_cases s <;> simp [e]

@[simp] theorem leavePark_active (s : State) : s.leavePark.active = s.active := by
  obtain ⟨-, e⟩ | ⟨-, e⟩ := leavePark_cases s <;> simp [e]

/-! ## The end of a step -/

namespace State.FlowSound

variable {s t : State}

theorem completeStep (h : s.FlowSound) (hm : MayStart s.ctx s.active (s.ctx.index + 1)) : FlowAct s.completeStep := by
  refine ⟨h.setIdle.leavePark, ?_⟩
  simp only [State.completeStep, leavePark_ctx, leavePark_active]
  exact .start rfl hm

theorem abort (h : s.FlowSound) (c : AbortCause) : FlowAct (s.abort c) := by
  unfold State.abort
  refine .enters (plansSound_of_active h.plans rfl) (h.domains.of_eq rfl rfl) ?_ (.rollback rfl rfl)
  exact ⟨h.flow.records, nofun, nofun, nofun, nofun, fun _ hn => absurd rfl hn, nofun, nofun⟩

theorem failStep (h : s.FlowSound) (hm : MayStart s.ctx s.active (s.ctx.index + 1)) : FlowAct s.failStep := by
  obtain ⟨-, e⟩ | ⟨t, -, ⟨-, e⟩ | ⟨-, e⟩ | ⟨-, e⟩⟩ := failStep_cases s
  · exact e ▸ .nil h.setIdle
  · rw [e]
    have hp := h.setIdle.leavePark
    refine ⟨⟨hp.plans, hp.domains, hp.flow.of_idle ?_ rfl (.inl rfl)⟩, .start ?_ ?_⟩
    · simp [State.setWait]
    · simp [State.setWait]
    · simpa [State.setWait, MayStart] using hm
  · exact e ▸ h.setIdle.abort _
  · exact e ▸ .undriven h.setIdle (by simp [Work.drives])

theorem failRollback (h : s.FlowSound) : FlowAct s.failRollback :=
  ⟨h.withCtx (h.flow.of_idle rfl rfl (.inr rfl)), .inl (undriven_cons.mpr ⟨rfl, undriven_nil⟩)⟩

theorem recordDone (h : s.FlowSound) (hp : s.ctx.portion = .rollback) : FlowAct s.recordDone :=
  ⟨h.withCtx (h.flow.of_idle rfl rfl (.inr rfl)), .rollback rfl hp⟩

end State.FlowSound

/-! ## Work of the domain controller -/

theorem startHold_quiet (s : State) (d : DomainId) : ∀ w ∈ (s.startHold d).2, w.quiet = true := by
  obtain ⟨-, e⟩ | ⟨-, e⟩ := startHold_cases s d <;> simp [e, Work.quiet]

theorem enterOff_quiet (s : State) (d : DomainId) (r : DomainRuntime) : ∀ w ∈ (s.enterOff d r).2, w.quiet = true := by
  rw [enterOff_eq]
  exact List.forall_mem_cons.mpr ⟨rfl, startHold_quiet _ d⟩

theorem enableEffect_quiet (s : State) (d : DomainId) (a : EnableAnswer) :
    ∀ w ∈ (s.enableEffect d a).2, w.quiet = true := by
  obtain ⟨-, -, e⟩ | e := enableEffect_cases s d a
  · rw [e]
    unfold State.acceptEnable
    dsimp only
    split <;> simp [Work.quiet]
  · simp [e]

theorem clearFault_quiet (s : State) (d : DomainId) : ∀ w ∈ (s.clearFault d).2, w.quiet = true := by
  unfold State.clearFault
  split <;> simp [Work.quiet]

theorem disableEffect_quiet (s : State) (d : DomainId) : ∀ w ∈ (s.disableEffect d).2, w.quiet = true := by
  obtain ⟨-, e⟩ | ⟨-, -, -, e⟩ | ⟨-, -, e⟩ | e := disableEffect_cases s d
  · simp [e]
  · rw [e]
    unfold State.dropEnable
    dsimp only
    split
    · simp
    · exact enterOff_quiet s d _
  · exact e ▸ clearFault_quiet s d
  · simp [e]

theorem sweepAll_quiet (s : State) (ds : List DomainId) : ∀ w ∈ (s.sweepAll ds).2, w.quiet = true := by
  induction ds generalizing s with
  | nil => exact nofun
  | cons d ds ih =>
    rw [sweepAll_cons]
    refine List.forall_mem_append.mpr ⟨?_, ih _⟩
    obtain ⟨-, e⟩ | ⟨-, -, e⟩ | ⟨-, -, -, e⟩ | ⟨-, -, -, e⟩ := sweepDomain_cases s d
    · simp [e]
    · exact e ▸ clearFault_quiet s d
    · simp [e]
    · exact e ▸ enterOff_quiet s d _

theorem faultAll_undriven (s : State) (c : FaultCause) (ds : List DomainId) : Undriven (s.faultAll c ds).2 := by
  induction ds generalizing s with
  | nil => exact undriven_nil
  | cons d ds ih => exact undriven_append.mpr ⟨undriven_of_quiet (startHold_quiet _ d), ih _⟩

theorem faultDomain_undriven (s : State) (d : DomainId) (c : FaultCause) : Undriven (s.faultDomain d c).2 := by
  rw [faultDomain_eq]
  refine undriven_append.mpr ⟨undriven_append.mpr ⟨fun w hw => ?_, undriven_of_quiet (startHold_quiet _ d)⟩,
    faultAll_undriven _ _ _⟩
  obtain ⟨e, -, rfl⟩ := List.mem_map.mp hw
  rfl

theorem waitExpiry_undriven (s : State) (d : DomainId) (b : Bool) : Undriven (s.waitExpiry d b).2 := by
  obtain ⟨-, -, e⟩ | ⟨-, e⟩ := waitExpiry_cases s d b
  · exact e ▸ faultDomain_undriven _ d _
  · simp [e]

theorem pgRise_undriven (s : State) (d : DomainId) : Undriven (s.pgRise d).2 := by
  obtain ⟨-, e⟩ | ⟨-, e⟩ | ⟨-, -, e⟩ | ⟨-, e⟩ := pgRise_cases s d <;> simp [e, Work.drives]

theorem pgFall_undriven (s : State) (d : DomainId) : Undriven (s.pgFall d).2 := by
  obtain ⟨-, e⟩ | ⟨-, -, e⟩ | ⟨-, -, -, e⟩ | ⟨-, -, -, e⟩ | ⟨-, -, -, e⟩ := pgFall_cases s d
  · simp [e]
  · simp [e]
  · exact e ▸ faultDomain_undriven _ d _
  · exact e ▸ undriven_of_quiet (enterOff_quiet _ d _)
  · simp [e]

theorem holdExpiry_undriven (s : State) (d : DomainId) : Undriven (s.holdExpiry d).2 := by
  unfold State.holdExpiry
  split <;> simp [Work.drives]

theorem overrangeExpiry_undriven (s : State) (d : DomainId) : Undriven (s.overrangeExpiry d).2 := by
  unfold State.overrangeExpiry
  split <;> simp [Work.drives]

/-! ## Waits -/

namespace State.FlowSound

variable {s t : State}

theorem waitExpiry (h : s.FlowSound) (d : DomainId) (b : Bool) : (s.waitExpiry d b).1.FlowSound :=
  h.of_seqView (seqView_waitExpiry s d b) (h.domains.waitExpiry d b)

theorem expireWait (h : s.FlowSound) : FlowAct s.expireWait := by
  have hctx (d : DomainId) (b : Bool) : (s.waitExpiry d b).1.ctx = s.ctx :=
    congrArg SeqView.ctx (seqView_waitExpiry s d b)
  have hactive (d : DomainId) (b : Bool) : (s.waitExpiry d b).1.active = s.active :=
    congrArg SeqView.active (seqView_waitExpiry s d b)
  obtain ⟨d, b, hw, e⟩ | ⟨hw, e⟩ | ⟨hw, e⟩ | ⟨d, b, -, e⟩ | ⟨-, e⟩ | ⟨-, e⟩ := expireWait_cases s
  · have hm : MayStart s.ctx s.active (s.ctx.index + 1) :=
      h.flow.planWait (by obtain ⟨hw, -⟩ | ⟨hw, -⟩ := hw <;> simp [hw, Wait.ofPlan])
    rw [← hctx d b, ← hactive d b] at hm
    exact e ▸ ((h.waitExpiry d b).failStep hm).append (waitExpiry_undriven s d b)
  · exact e ▸ h.completeStep (h.flow.planWait (by simp [hw, Wait.ofPlan]))
  · refine e ▸ h.failStep (h.flow.planWait ?_)
    cases hk : s.ctx.wait <;> simp [hk, Wait.failsAlone, Wait.ofPlan] at hw ⊢
  · exact e ▸ (h.waitExpiry d b).failRollback.append (waitExpiry_undriven s d b)
  · exact e ▸ h.failRollback
  · exact e ▸ .nil h

/-- A wait that may stand begins, or expires at once. -/
theorem waitFor (h : s.FlowSound) {w : Wait}
    (hw : Flow s.platform { s.ctx with wait := w } s.undo s.active) : FlowAct (s.waitFor w) := by
  have hs : (s.setWait w).FlowSound := h.withCtx hw
  obtain ⟨-, e⟩ | ⟨-, e⟩ := waitFor_cases s w
  · exact e ▸ hs.expireWait
  · exact e ▸ .nil hs

theorem waitFor_plan (h : s.FlowSound) {w : Wait} (hw : w.ofPlan = true)
    (hpres : ∀ d, w = .enable d → (s.cfg d).present = true)
    (hm : MayStart s.ctx s.active (s.ctx.index + 1)) : FlowAct (s.waitFor w) := by
  refine h.waitFor (h.flow.of_wait (fun d hd => ?_) (fun _ => hm) (fun hp => ?_) fun hr => ?_)
  · obtain hd | rfl := hd
    · exact hpres d hd
    · simp [Wait.ofPlan] at hw
  · subst hp
    simp [Wait.ofPlan] at hw
  · cases w <;> simp [Wait.ofPlan, Wait.ofRollback] at hw hr

theorem recordWait (h : s.FlowSound) {w : Wait} (hw : w.ofRollback = true) (hne : ∀ d, w ≠ .rollbackEnable d)
    (hp : s.ctx.portion = .rollback) (b : Nat) : FlowAct (s.recordWait w b) := by
  refine waitFor (s := { s with ctx := { s.ctx with clock := .fine, startTick := s.fine, budget := some b } }) ?_ ?_
  · exact h.withCtx ⟨h.flow.records, h.flow.present, h.flow.planWait, h.flow.pinnedWait, h.flow.rollbackWait,
      h.flow.undo, h.flow.record, h.flow.rest⟩
  · refine ⟨h.flow.records, fun d hd => ?_, fun hpl => ?_, fun hpin => ?_, fun _ => hp, h.flow.undo, h.flow.record,
      h.flow.rest⟩
    · obtain hd | hd := hd
      · simp only at hd
        simp [hd, Wait.ofRollback] at hw
      · exact absurd hd (hne d)
    · cases w <;> simp [Wait.ofPlan, Wait.ofRollback] at hw hpl
    · simp only at hpin
      simp [hpin, Wait.ofRollback] at hw

end State.FlowSound

end Sys2Proof.Machine
end

section
/-! # The flow: plan starts and completions, steps, rollback -/

namespace Sys2Proof.Machine

open Sys2Proof

/-! ## Plan starts -/

/-- R23: the context of a plan that starts, with an empty undo stack. -/
theorem Flow.setUp {q : PlatformState} (hq : q.planRunning = true) (k : SlotId) (por : Portion)
    (r : Vector Nat 32) (g : Option TripTarget) (a : ConfigSet) :
    Flow q { releasedContext with slot := some k, portion := por, retries := r, tripTarget := g } [] a :=
  ⟨by simp [releasedContext], by simp [releasedContext], nofun, nofun, nofun, fun _ _ => rfl, fun _ => rfl,
    by simp [hq]⟩

theorem entrySlot_le (t : LowState) : (entrySlot t).val ≤ 2 := by
  cases t <;> decide

theorem exitSlot_rest {p : PlatformState} {k : SlotId} (h : exitSlot p = some k) : p.planRunning = false := by
  cases p with
  | suspended | hibernated | softOff | tripped => rfl
  | run | checking | parked | committing | waking | returning | tripping => contradiction

theorem startEntry_flow {s : State} (hplans : s.PlansSound) (hdoms : s.DomainsSound) (t : LowState) :
    FlowAct (s.startEntry t) := by
  have hflow := Flow.setUp (q := .checking) rfl (entrySlot t) .check
    (freshRetries (s.active.plans.get (entrySlot t))) none s.active
  have hplans' : State.PlansSound { s.setUpPlan (entrySlot t) .check none with undo := [] } :=
    plansSound_of_active hplans rfl
  have hdoms' : State.DomainsSound { s.setUpPlan (entrySlot t) .check none with undo := [] } := hdoms.of_eq rfl rfl
  unfold State.startEntry
  dsimp only
  split
  · exact State.FlowSound.abort (.enters hplans' hdoms' hflow) _
  · refine .enters hplans' hdoms' hflow (.start rfl ⟨rfl, fun _ => ?_⟩)
    obtain ⟨c, hc⟩ := commitIndex_of_entry (entrySlot_le t) (hplans (entrySlot t)).2.1
    exact ⟨c, hc, Nat.zero_le c⟩

namespace State.FlowSound

variable {s t : State}

theorem startExit (h : s.FlowSound) (c : WakeCause) : FlowAct (s.startExit c) := by
  unfold State.startExit
  split
  · exact .nil h
  · rename_i k hk
    have hnone : s.ctx.portion = .none := h.flow.rest (exitSlot_rest hk)
    have hundo : s.undo = [] := h.flow.undo (by simp [hnone]) (by simp [hnone])
    have hflow := Flow.setUp (q := .waking) rfl k .exit
      (freshRetries (s.active.plans.get k)) none s.active
    rw [← hundo] at hflow
    have hs : (State.enterPlatform { s.setUpPlan k .exit none with wakeCause := some c } .waking).FlowSound :=
      enters (s := { s.setUpPlan k .exit none with wakeCause := some c }) (plansSound_of_active h.plans rfl)
        (h.domains.of_eq rfl rfl) hflow
    dsimp only
    split
    · refine .nil (hs.withCtx (hs.flow.of_wait (by simp) nofun (fun _ => ?_) nofun))
      rw [State.enterPlatform_ctx]
      rfl
    · refine ⟨hs, .start ?_ ?_⟩
      · rw [State.enterPlatform_ctx]
        rfl
      · rw [State.enterPlatform_ctx]
        exact ⟨rfl, nofun⟩

/-- R55: the trip plan starts from any state, and a later cause is counted. -/
theorem takeTrip (h : s.FlowSound) (c : TripCause) : FlowAct (s.takeTrip c) := by
  obtain ⟨-, e⟩ | ⟨-, e⟩ | ⟨-, -, e⟩ := takeTrip_cases s c
  · rw [e]
    exact .nil ⟨plansSound_of_active h.plans rfl, h.domains.of_eq rfl rfl, h.flow.records, h.flow.present,
      h.flow.planWait, h.flow.pinnedWait, h.flow.rollbackWait, h.flow.undo, h.flow.record, h.flow.rest⟩
  · rw [e]
    exact .nil (h.of_core rfl)
  · rw [e]
    have hs : FlowAct (State.enterPlatform (State.setUpPlan { s with
        undo := [], pendingWake := none, pendingRequest := false, requestStale := false, trip := s.trip.add c }
        6 .trip (some c.target)) .tripping, [.start 0]) :=
      .enters (plansSound_of_active h.plans rfl) (h.domains.of_eq rfl rfl)
        (Flow.setUp rfl 6 .trip _ _ s.active) (.start rfl ⟨rfl, nofun⟩)
    exact ⟨hs.1.of_core (core_notify _ _), hs.2⟩

/-! ## Plan completion -/

/-- R15: at rest nothing waits, nothing is to be undone. -/
theorem enterRest (hplans : s.PlansSound) (hdoms : s.DomainsSound) (hu : s.undo = []) (p : PlatformState) :
    (s.enterRest p).FlowSound := by
  have ha : (s.enterRest p).active = s.active := State.enterPlatform_active s p
  refine ⟨plansSound_of_active hplans ha, hdoms.of_eq ha (State.enterPlatform_domains s p), ?_⟩
  have hundo : (s.enterRest p).undo = [] := (State.enterPlatform_undo s p).trans hu
  rw [hundo]
  exact .released _ _

theorem completeEntry (hplans : s.PlansSound) (hdoms : s.DomainsSound) (hu : s.undo = []) :
    FlowAct s.completeEntry := by
  have hr : (State.enterRest { s with pendingWake := none } (entryRest s.ctx.slot)).FlowSound :=
    enterRest (s := { s with pendingWake := none }) (plansSound_of_active hplans rfl) (hdoms.of_eq rfl rfl) hu _
  unfold State.completeEntry
  dsimp only
  split
  · exact .nil hr
  · exact hr.startExit _

theorem completeExit (hplans : s.PlansSound) (hdoms : s.DomainsSound) (hu : s.undo = []) : FlowAct s.completeExit := by
  have hr : (State.enterRest { s with pendingRequest := false } .run).FlowSound :=
    enterRest (s := { s with pendingRequest := false }) (plansSound_of_active hplans rfl) (hdoms.of_eq rfl rfl) hu _
  unfold State.completeExit
  dsimp only
  split
  · exact startEntry_flow hr.plans hr.domains _
  · exact .nil hr
  · exact .nil hr

/-- R15: a plan completes where nothing is left to be undone. -/
theorem completePlan (h : s.FlowSound) (hu : s.undo = []) : FlowAct s.completePlan := by
  have applied {u : State} (hp : u.PlansSound) (hd : u.DomainsSound) (hu : u.undo = []) :
      u.applyPendingItems.PlansSound ∧ u.applyPendingItems.DomainsSound ∧ u.applyPendingItems.undo = [] := by
    obtain ⟨⟨-, -, hundo⟩, hsound⟩ := ApplySound.applySelected u u.applyPending.get
    exact ⟨(hsound ⟨hp, hd⟩).1, (hsound ⟨hp, hd⟩).2, hundo.trans hu⟩
  obtain ⟨hplans, hdoms, hundo⟩ := applied h.plans h.domains hu
  cases hp : s.ctx.portion with
  | none =>
    simp only [State.completePlan, hp]
    exact .nil h
  | check | commit =>
    simp only [State.completePlan, hp]
    exact completeEntry hplans hdoms hundo
  | exit =>
    simp only [State.completePlan, hp]
    exact completeExit hplans hdoms hundo
  | rollback =>
    simp only [State.completePlan, hp]
    exact .nil (enterRest (s := { s.applyPendingItems with requestStale := s.applyPendingItems.requested != .run })
      (plansSound_of_active hplans rfl) (hdoms.of_eq rfl rfl) hundo .run)
  | trip =>
    have hview := seqView_eq_iff.mp (seqView_finalSweep s)
    obtain ⟨hplans, hdoms, hundo⟩ := applied (plansSound_of_active h.plans hview.2.2.2.2) h.domains.finalSweep
      (hview.2.2.1.trans hu)
    rw [completePlan_trip hp]
    refine FlowAct.prepend (x := s.finalSweep.1.applyPendingItems.completeTrip) ?_ (sweepAll_quiet s allDomains)
    exact .nil (enterRest hplans hdoms hundo _)

/-! ## Emissions and undo records -/

/-- R43: a record is pushed in the check portion alone, and names a present domain. -/
theorem pushUndo (h : s.FlowSound) {r : UndoRecord} (hr : ∀ d b, r = .domain d b → (s.cfg d).present = true) :
    (s.pushUndo r).FlowSound := by
  obtain ⟨hc, -, e⟩ | e := pushUndo_cases s r
  · rw [e]
    refine ⟨plansSound_of_active h.plans rfl, h.domains.of_eq rfl rfl, fun d b hm => ?_, h.flow.present,
      h.flow.planWait, h.flow.pinnedWait, h.flow.rollbackWait, fun hn => absurd hc hn, h.flow.record, h.flow.rest⟩
    simp only [List.mem_cons] at hm
    obtain (hm | hm) | hm := hm
    · exact hr d b hm.symm
    · exact h.flow.records d b (.inl hm)
    · exact h.flow.records d b (.inr hm)
  · rwa [e]

end State.FlowSound

@[simp] theorem pushUndo_ctx (s : State) (r : UndoRecord) : (s.pushUndo r).ctx = s.ctx := by
  obtain ⟨-, -, e⟩ | e := pushUndo_cases s r <;> rw [e]

@[simp] theorem pushUndo_active (s : State) (r : UndoRecord) : (s.pushUndo r).active = s.active := by
  obtain ⟨-, -, e⟩ | e := pushUndo_cases s r <;> rw [e]

/-- R42, R43: beside the links, an emission is the push of its undo record. -/
theorem core_emitStep (s : State) (p : Port) (sig : Byte) (l : Level) :
    (s.emitStep p sig l).core
      = (if s.emitted p sig = l then s else s.pushUndo (.signal p sig (s.emitted p sig))).core := by
  simp [State.emitStep]

theorem emitStep_ctx (s : State) (p : Port) (sig : Byte) (l : Level) : (s.emitStep p sig l).ctx = s.ctx := by
  rw [(seqView_eq_iff.mp (seqView_of_core (core_emitStep s p sig l))).2.1]
  split
  · rfl
  · exact pushUndo_ctx s _

theorem emitStep_active (s : State) (p : Port) (sig : Byte) (l : Level) : (s.emitStep p sig l).active = s.active := by
  rw [(seqView_eq_iff.mp (seqView_of_core (core_emitStep s p sig l))).2.2.2.2]
  split
  · rfl
  · exact pushUndo_active s _

theorem State.FlowSound.emitStep {s : State} (h : s.FlowSound) (p : Port) (sig : Byte) (l : Level) :
    (s.emitStep p sig l).FlowSound := by
  refine State.FlowSound.of_core ?_ (core_emitStep s p sig l)
  split
  · exact h
  · exact h.pushUndo nofun

theorem State.FlowSound.emit_completes {s : State} (h : s.FlowSound) (hm : MayStart s.ctx s.active (s.ctx.index + 1))
    (p : Port) (sig : Byte) (l : Level) : FlowAct (s.emitStep p sig l).completeStep := by
  refine (h.emitStep p sig l).completeStep ?_
  rwa [emitStep_ctx, emitStep_active]

/-! ## Steps -/

theorem enableEffect_ctx (s : State) (d : DomainId) (a : EnableAnswer) : (s.enableEffect d a).1.ctx = s.ctx :=
  congrArg SeqView.ctx (seqView_enableEffect s d a)

theorem enableEffect_active (s : State) (d : DomainId) (a : EnableAnswer) : (s.enableEffect d a).1.active = s.active :=
  congrArg SeqView.active (seqView_enableEffect s d a)

theorem disableEffect_ctx (s : State) (d : DomainId) : (s.disableEffect d).1.ctx = s.ctx :=
  congrArg SeqView.ctx (seqView_disableEffect s d)

theorem disableEffect_active (s : State) (d : DomainId) : (s.disableEffect d).1.active = s.active :=
  congrArg SeqView.active (seqView_disableEffect s d)

namespace State.FlowSound

variable {s t : State}

theorem enableEffect (h : s.FlowSound) {d : DomainId} (hd : (s.cfg d).present = true)
    (ha : s.judgeEnable d = .accepted) : (s.enableEffect d .accepted).1.FlowSound :=
  h.of_seqView (seqView_enableEffect s d _) (h.domains.enableEffect hd ha)

theorem disableEffect (h : s.FlowSound) (d : DomainId) : (s.disableEffect d).1.FlowSound :=
  h.of_seqView (seqView_disableEffect s d) (h.domains.disableEffect d)

theorem enableAccepted (h : s.FlowSound) {d : DomainId} (hd : (s.cfg d).present = true)
    (ha : s.judgeEnable d = .accepted) (hm : MayStart s.ctx s.active (s.ctx.index + 1)) :
    FlowAct (s.enableAccepted d) := by
  have he := h.enableEffect hd ha
  rw [← enableEffect_ctx s d .accepted, ← enableEffect_active s d .accepted] at hm
  rw [enableAccepted_eq]
  dsimp only
  split
  · refine .prepend (x := State.completeStep _) (completeStep (he.pushUndo fun e b hb => ?_) ?_)
      (enableEffect_quiet s d _)
    · obtain ⟨rfl, -⟩ := UndoRecord.domain.inj hb
      rwa [cfg_of_seqView (seqView_enableEffect s d _)]
    · rwa [pushUndo_ctx, pushUndo_active]
  · exact .prepend (x := State.completeStep _) (he.completeStep hm) (enableEffect_quiet s d _)

theorem enableStep (h : s.FlowSound) {d : DomainId} (hd : (s.cfg d).present = true)
    (hm : MayStart s.ctx s.active (s.ctx.index + 1)) : FlowAct (s.enableStep d) := by
  unfold State.enableStep
  split
  · exact h.enableAccepted hd ‹_› hm
  · exact h.failStep hm
  · exact h.failStep hm
  · refine h.waitFor_plan rfl (fun e he => ?_) hm
    obtain rfl := Wait.enable.inj he
    exact hd

theorem disableStep (h : s.FlowSound) {d : DomainId} (hd : (s.cfg d).present = true)
    (hm : MayStart s.ctx s.active (s.ctx.index + 1)) : FlowAct (s.disableStep d) := by
  cases hr : s.disableRefused d
  · have he := h.disableEffect d
    rw [← disableEffect_ctx s d, ← disableEffect_active s d] at hm
    rw [disableStep_eq s d hr]
    dsimp only
    split
    · refine .prepend (x := State.completeStep _) (completeStep (he.pushUndo fun e b hb => ?_) ?_)
        (disableEffect_quiet s d)
      · obtain ⟨rfl, -⟩ := UndoRecord.domain.inj hb
        rwa [cfg_of_seqView (seqView_disableEffect s d)]
      · rwa [pushUndo_ctx, pushUndo_active]
    · exact .prepend (x := State.completeStep _) (he.completeStep hm) (disableEffect_quiet s d)
  · simp only [State.disableStep, hr, if_true]
    exact h.failStep hm

theorem guardStep (h : s.FlowSound) (hm : MayStart s.ctx s.active (s.ctx.index + 1)) (p : Port) (a : BitVec 4)
    (sig : Byte) (l : Level) : FlowAct (s.guardStep p a sig l) := by
  unfold State.guardStep
  split
  · exact h.failStep hm
  · split
    · exact h.failStep hm
    · split
      · exact h.completeStep hm
      · exact h.waitFor_plan rfl nofun hm

/-- R36: the COMMIT step empties the undo stack. -/
theorem commitStep (h : s.FlowSound) (hw : s.ctx.wait = .idle) : FlowAct s.commitStep := by
  have hflow : Flow .committing { s.ctx with portion := .commit } [] s.active :=
    ⟨fun d b hm => h.flow.records d b (.inr (hm.resolve_left nofun)), h.flow.present, by simp [hw, Wait.ofPlan],
      by simp [hw], by simp [hw, Wait.ofRollback], fun _ _ => rfl, nofun, nofun⟩
  have hs :
      (State.enterPlatform { s with ctx := { s.ctx with portion := .commit }, undo := [] } .committing).FlowSound :=
    enters (s := { s with ctx := { s.ctx with portion := .commit }, undo := [] }) (plansSound_of_active h.plans rfl)
      (h.domains.of_eq rfl rfl) hflow
  refine hs.completeStep ?_
  rw [State.enterPlatform_ctx]
  exact ⟨rfl, nofun⟩

/-- R37: a RETRY step proceeds, goes back, or fails. -/
theorem retryStep (h : s.FlowSound) {t : Step} (hw : s.ctx.wait = .idle)
    (hm : MayStart s.ctx s.active (s.ctx.index + 1)) (hback : t.retryTarget < s.ctx.index) :
    FlowAct (s.retryStep t) := by
  unfold State.retryStep
  split
  · exact h.completeStep hm
  · split
    · dsimp only
      split
      · refine ⟨h.withCtx (h.flow.of_idle hw rfl (.inl rfl)), .start hw ⟨hm.1, fun hc => ?_⟩⟩
        obtain ⟨k, hk, hle⟩ := hm.2 hc
        exact ⟨k, hk, by omega⟩
      · exact h.failStep hm
    · exact h.failStep hm

end State.FlowSound

/-- R24: a step has begun: the plan that runs has it at the context's index, and nothing waits yet. -/
structure Begun (s : State) (t : Step) : Prop where
  step : s.currentStep = some t
  idle : s.ctx.wait = .idle
  may : MayStart s.ctx s.active s.ctx.index

namespace Begun

variable {s : State} {t : Step}

/-- R21: the current step is a step of an active plan. -/
theorem of_plan (hb : Begun s t) : ∃ k, s.ctx.slot = some k ∧ (s.active.plans.get k).step? s.ctx.index = some t := by
  have hstep := hb.step
  unfold State.currentStep State.runningPlan at hstep
  cases hk : s.ctx.slot with
  | none => simp [hk] at hstep
  | some k => exact ⟨k, rfl, by simpa [hk] using hstep⟩

/-- R36: after a step other than the COMMIT step, the next one may start. -/
theorem next (hb : Begun s t) (hk : t.kind ≠ .commit) : MayStart s.ctx s.active (s.ctx.index + 1) := by
  refine ⟨hb.may.1, fun hc => ?_⟩
  obtain ⟨c, hcommit, hle⟩ := hb.may.2 hc
  refine ⟨c, hcommit, ?_⟩
  by_contra hlt
  obtain rfl : s.ctx.index = c := by omega
  obtain ⟨k, hslot, hstep⟩ := hb.of_plan
  rw [hslot, Option.map_some, Option.bind_some] at hcommit
  obtain ⟨u, hu, hukind⟩ := Plan.step?_commitIndex hcommit
  obtain rfl := Option.some.inj (hstep.symm.trans hu)
  exact hk hukind

/-- R168: a domain step names a present domain. -/
theorem present (hb : Begun s t) (h : s.PlansSound) {d : DomainId} (hd : t.place = .domain d)
    (hk : t.kind = .enable ∨ t.kind = .disable ∨ t.kind = .awaitGood ∨ t.kind = .awaitLow) :
    (s.cfg d).present = true := by
  obtain ⟨k, -, hstep⟩ := hb.of_plan
  obtain ⟨e, he, hpres⟩ := ((h k).2.2 _ t hstep).1 hk
  obtain rfl := DomOrPort.domain.inj (hd.symm.trans he)
  exact hpres

/-- R168: a RETRY step goes back. -/
theorem retry (hb : Begun s t) (h : s.PlansSound) (hk : t.kind = .retry) : t.retryTarget < s.ctx.index := by
  obtain ⟨k, -, hstep⟩ := hb.of_plan
  exact retryTarget_lt (h k).2.1 hstep hk

end Begun

namespace State.FlowSound

variable {s t : State}

theorem stepAction (h : s.FlowSound) {t : Step} (hb : Begun s t) : FlowAct (s.stepAction t) := by
  unfold State.stepAction
  split
  case h_1 d hk hd => exact h.enableStep (hb.present h.plans hd (.inl hk)) (hb.next (by simp [hk]))
  case h_2 d hk hd => exact h.disableStep (hb.present h.plans hd (.inr (.inl hk))) (hb.next (by simp [hk]))
  case h_3 d hk _ =>
    have hm := hb.next (by simp [hk])
    split
    · exact h.completeStep hm
    · exact h.waitFor_plan rfl nofun hm
  case h_4 d hk _ =>
    have hm := hb.next (by simp [hk])
    split
    · exact h.completeStep hm
    · exact h.waitFor_plan rfl nofun hm
  case h_5 p hk _ =>
    have hm := hb.next (by simp [hk])
    split
    · exact h.emit_completes hm p _ _
    · exact h.waitFor_plan rfl nofun hm
  case h_6 p hk _ =>
    have hm := hb.next (by simp [hk])
    split
    · exact h.completeStep hm
    · exact h.waitFor_plan rfl nofun hm
  case h_7 p hk _ => exact h.guardStep (hb.next (by simp [hk])) p _ _ _
  case h_8 hk => exact h.waitFor_plan rfl nofun (hb.next (by simp [hk]))
  case h_9 hk =>
    refine (h.enterPlatform rfl).waitFor_plan rfl nofun ?_
    rw [State.enterPlatform_ctx, State.enterPlatform_active]
    exact hb.next (by simp [hk])
  case h_10 => exact h.commitStep hb.idle
  case h_11 hk => exact h.retryStep hb.idle (hb.next (by simp [hk])) (hb.retry h.plans hk)
  all_goals exact h.failStep (hb.next (by simp [*]))

theorem beginStep (h : s.FlowSound) (t : Step) (i : Nat) : (s.beginStep t i).FlowSound :=
  h.withCtx (h.flow.of_idle rfl rfl (.inl rfl))

/-- R24: the step at an index that may start starts, or the plan completes past its last step. -/
theorem startStep (h : s.FlowSound) {i : Nat} (hm : MayStart s.ctx s.active i) : FlowAct (s.startStep i) := by
  obtain ⟨-, e⟩ | ⟨p, hp, hi, e⟩ | ⟨p, t, hp, hi, e⟩ := startStep_cases s i
  · exact e ▸ .nil h
  · refine e ▸ h.completePlan (h.flow.undo (fun hc => ?_) fun hr => by simp [hr, MayStart, Portion.stepped] at hm)
    obtain ⟨c, hcommit, hle⟩ := hm.2 hc
    rw [← State.runningPlan, hp, Option.bind_some] at hcommit
    obtain ⟨t, ht, -⟩ := Plan.step?_commitIndex hcommit
    exact Plan.step?_isSome_of_le ht hle hi
  · refine e ▸ (h.beginStep t i).stepAction ⟨?_, rfl, hm⟩
    have hp' : (s.beginStep t i).runningPlan = some p := hp
    simp only [State.currentStep, hp']
    exact hi

/-! ## Rollback -/

theorem recordEnabled (h : s.FlowSound) {d : DomainId} (hd : (s.cfg d).present = true)
    (ha : s.judgeEnable d = .accepted) (hp : s.ctx.portion = .rollback) : FlowAct (s.recordEnabled d) := by
  have he := h.enableEffect hd ha
  rw [← enableEffect_ctx s d .accepted] at hp
  rw [recordEnabled_eq]
  refine .prepend (x := ite _ _ _) ?_ (enableEffect_quiet s d _)
  split
  · exact he.recordDone hp
  · exact he.recordWait rfl (by simp) hp _

theorem recordOn (h : s.FlowSound) {d : DomainId} (hd : (s.cfg d).present = true)
    (hp : s.ctx.portion = .rollback) : FlowAct (s.recordOn d) := by
  unfold State.recordOn
  split
  · exact h.recordEnabled hd ‹_› hp
  · exact h.failRollback
  · exact h.failRollback
  · refine .nil (h.withCtx ⟨h.flow.records, fun e he => ?_, nofun, nofun, fun _ => hp, h.flow.undo, h.flow.record,
      h.flow.rest⟩)
    obtain he | he := he
    · contradiction
    · obtain rfl := Wait.rollbackEnable.inj he
      exact hd

theorem recordOff (h : s.FlowSound) (d : DomainId) (hp : s.ctx.portion = .rollback) : FlowAct (s.recordOff d) := by
  cases hr : s.disableRefused d
  · have he := h.disableEffect d
    rw [← disableEffect_ctx s d] at hp
    rw [recordOff_eq s d hr]
    refine .prepend (x := ite _ _ _) ?_ (disableEffect_quiet s d)
    split
    · exact he.recordDone hp
    · split
      · exact he.recordDone hp
      · exact he.recordWait rfl (by simp) hp _
  · simp only [State.recordOff, hr, if_true]
    exact h.failRollback

/-- R52: a placed rollback signal ends its record. -/
theorem recordEmit_done (h : s.FlowSound) (hp : s.ctx.portion = .rollback) (p : Port) (sig : Byte) (l : Level) :
    FlowAct (s.recordEmit p sig l).recordDone :=
  (h.of_core (core_recordEmit s p sig l)).recordDone
    ((congrArg (fun v => (SeqView.ctx v.1).portion) (core_recordEmit s p sig l)).trans hp)

theorem recordSignal (h : s.FlowSound) (p : Port) (sig : Byte) (l : Level) (hp : s.ctx.portion = .rollback) :
    FlowAct (s.recordSignal p sig l) := by
  unfold State.recordSignal
  split
  · exact h.recordEmit_done hp p sig l
  · exact h.recordWait rfl (by simp) hp _

/-- R49: the next record is taken off the stack, or the rollback completes. -/
theorem nextRecord (h : s.FlowSound) (hp : s.ctx.portion = .rollback) : FlowAct s.nextRecord := by
  unfold State.nextRecord
  split
  · exact h.completePlan ‹_›
  · rename_i r rest hu
    have hs : State.FlowSound { s with
        undo := rest, ctx := { s.ctx with record := some r, wait := .idle, clock := .fine, startTick := s.fine } } := by
      refine ⟨plansSound_of_active h.plans rfl, h.domains.of_eq rfl rfl, fun d b hm => ?_, nofun, nofun, nofun, nofun,
        fun _ hn => absurd hp hn, fun hn => ?_, h.flow.rest⟩
      · refine h.flow.records d b (.inl ?_)
        rw [hu, List.mem_cons]
        exact hm.symm.imp (fun e => (Option.some.inj e).symm) id
      · simp only at hn
        simp [hp] at hn
    have hpres (d : DomainId) (b : Bool) (hr : r = .domain d b) : (s.cfg d).present = true :=
      h.flow.records d b (.inl (by simp [hu, hr]))
    dsimp only
    split
    · exact hs.recordOn (hpres _ _ rfl) hp
    · exact hs.recordOff _ hp
    · exact hs.recordSignal _ _ _ hp

end State.FlowSound

end Sys2Proof.Machine
end

section
/-! # Every step keeps the domains sound and the records' domains present -/

namespace Sys2Proof.Machine

open Sys2Proof

namespace State.FlowSound

variable {s t : State}

/-! ## Reports of the domain controller -/

theorem tryPinned (h : s.FlowSound) (d : DomainId) : (s.tryPinned d).FlowSound :=
  h.of_seqView (seqView_tryPinned s d) (h.domains.tryPinned d)

/-- R3: the exit plan's wait for pinned domains ends with its step 0. -/
theorem pinnedEnds (h : s.FlowSound) (hw : s.ctx.wait = .pinned) : FlowAct (s.setWait .idle, [.start 0]) := by
  have hp := h.flow.pinnedWait hw
  exact ⟨h.setIdle, .start rfl ⟨by simp [State.setWait, hp, Portion.stepped], by simp [State.setWait, hp]⟩⟩

theorem pinnedWaitTest (h : s.FlowSound) : FlowAct s.pinnedWaitTest := by
  unfold State.pinnedWaitTest
  split
  · rename_i hw
    exact h.pinnedEnds hw.1
  · exact .nil h

theorem takeOn (h : s.FlowSound) (d : DomainId) : FlowAct (s.takeOn d) := by
  unfold State.takeOn
  split
  · rename_i hw
    exact h.completeStep (h.flow.planWait (by simp [hw, Wait.ofPlan]))
  · split
    · rename_i hw
      exact h.recordDone (h.flow.rollbackWait (by simp [hw, Wait.ofRollback]))
    · exact h.pinnedWaitTest

theorem takeOff (h : s.FlowSound) (d : DomainId) : FlowAct (s.takeOff d) := by
  unfold State.takeOff
  split
  · rename_i hw
    exact h.completeStep (h.flow.planWait (by simp [hw, Wait.ofPlan]))
  · split
    · rename_i hw
      exact h.recordDone (h.flow.rollbackWait (by simp [hw, Wait.ofRollback]))
    · exact .nil h

theorem takeFault (h : s.FlowSound) (d : DomainId) (c : Bool) : FlowAct (s.takeFault d c) := by
  unfold State.takeFault
  split
  · exact h.takeTrip _
  · exact h.pinnedWaitTest

theorem takeOverrange (h : s.FlowSound) (d : DomainId) : FlowAct (s.takeOverrange d) := by
  unfold State.takeOverrange
  split
  · split
    · exact h.pinnedEnds ‹_›
    · exact .nil h
  · split
    · exact h.failRollback
    · exact .nil h

theorem judgeDeferred (h : s.FlowSound) (d : DomainId) : FlowAct (s.judgeDeferred d) := by
  unfold State.judgeDeferred
  split
  · rename_i hw
    have hm := h.flow.planWait (by simp [hw, Wait.ofPlan])
    split
    · exact h.enableAccepted (h.flow.present d (.inl hw)) ‹_› hm
    · exact h.failStep hm
    · exact h.failStep hm
    · exact .nil h
  · split
    · rename_i hw
      split
      · exact h.recordEnabled (h.flow.present d (.inr hw)) ‹_› (h.flow.rollbackWait (by simp [hw, Wait.ofRollback]))
      · exact h.failRollback
      · exact h.failRollback
      · exact .nil h
    · exact .nil h

theorem holdOver (h : s.FlowSound) (d : DomainId) : FlowAct (s.holdOver d) := by
  obtain ⟨hs, hw⟩ := h.judgeDeferred d
  have hview := seqView_eq_iff.mp (seqView_tryPinned (s.judgeDeferred d).1 d)
  rw [holdOver_eq]
  refine ⟨hs.tryPinned d, ?_⟩
  rw [hview.2.1, hview.2.2.2.2]
  exact hw

/-! ## Effects of the classifier and of the wake unit -/

theorem newRequest (h : s.FlowSound) (r : Requested) : FlowAct (s.newRequest r) := by
  obtain ⟨-, -, e⟩ | ⟨-, -, e⟩ | ⟨t, -, -, e⟩ | ⟨hc, hw⟩ := newRequest_cases s r
  · exact e ▸ h.abort _
  · exact e ▸ h.startExit _
  · exact e ▸ startEntry_flow h.plans h.domains t
  · exact ⟨h.of_core hc, .inl (hw ▸ undriven_nil)⟩

theorem requestEffect (h : s.FlowSound) : FlowAct s.requestEffect := by
  unfold State.requestEffect
  dsimp only
  split
  · exact .nil h
  · exact newRequest (s := { s with requested := s.computeRequested, requestStale := false }) (h.of_core rfl) _

theorem tripEffect (h : s.FlowSound) (l : Level) : FlowAct (s.tripEffect l) := by
  unfold State.tripEffect
  split
  · exact h.takeTrip _
  · exact .nil h

theorem vetoEffect (h : s.FlowSound) (l : Level) : FlowAct (s.vetoEffect l) := by
  unfold State.vetoEffect
  split
  · exact h.abort _
  · exact .nil h

theorem releaseEffect (h : s.FlowSound) (l : Level) : FlowAct (s.releaseEffect l) := by
  unfold State.releaseEffect
  split
  · rename_i hw
    exact h.completeStep (h.flow.planWait (by simp [hw.2, Wait.ofPlan]))
  · exact .nil h

theorem levelReport (h : s.FlowSound) (p : Port) (a : BitVec 4) (sig : Byte) (l : Level) :
    FlowAct (s.levelReport p a sig l) := by
  unfold State.levelReport
  split
  · rename_i hw
    exact h.completeStep (h.flow.planWait (by simp [hw, Wait.ofPlan]))
  · exact .nil h

end State.FlowSound

/-! ## Arrivals -/

/-- An arrival changes nothing of the core, starts an exit plan, or aborts an entry. -/
theorem arrival_effect (s : State) (n : SourceId) :
    ((s.arrival n).1.core = s.core ∧ (s.arrival n).2 = [])
      ∨ (∃ (u : State) (c : WakeCause), u.core = s.core ∧ s.arrival n = u.startExit c)
      ∨ ∃ (u : State) (c : AbortCause), u.core = s.core ∧ s.arrival n = u.abort c := by
  obtain ⟨-, e⟩ | ⟨-, e⟩ := arrival_cases s n
  · rw [e]
    generalize s.judgeArrival n = eff
    cases eff with
    | none => exact .inl ⟨core_capture s n .none, rfl⟩
    | woke => exact .inr (.inl ⟨_, _, core_capture s n .woke, rfl⟩)
    | aborted => exact .inr (.inr ⟨_, _, core_capture s n .aborted, rfl⟩)
    | pended => exact .inl ⟨core_capture s n .pended, rfl⟩
  · rw [e]
    exact .inl ⟨rfl, rfl⟩

/-- Table 6-1: in WAKING and RETURNING an arrival has no effect beyond its capture. -/
theorem arrival_busy {s : State} (h : s.platform = .waking ∨ s.platform = .returning) (n : SourceId) :
    (s.arrival n).1.core = s.core ∧ (s.arrival n).2 = [] := by
  have hj : s.judgeArrival n = .none := by
    obtain h | h := h <;> simp [State.judgeArrival, h]
  obtain ⟨-, e⟩ | ⟨-, e⟩ := arrival_cases s n
  · rw [e, hj]
    exact ⟨core_capture s n _, rfl⟩
  · rw [e]
    exact ⟨rfl, rfl⟩

theorem arrivals_busy {s : State} (h : s.platform = .waking ∨ s.platform = .returning) (ns : List SourceId) :
    (s.arrivals ns).1.core = s.core ∧ (s.arrivals ns).2 = [] := by
  induction ns generalizing s with
  | nil => exact ⟨rfl, rfl⟩
  | cons n ns ih =>
    obtain ⟨hc, hw⟩ := arrival_busy h n
    have hp : (s.arrival n).1.platform = s.platform := (seqView_eq_iff.mp (seqView_of_core hc)).1
    obtain ⟨ihc, ihw⟩ := ih (hp ▸ h)
    rw [arrivals_cons]
    exact ⟨ihc.trans hc, by rw [hw, ihw]; rfl⟩

theorem wakeEffect_busy {s : State} (h : s.platform = .waking ∨ s.platform = .returning) (n : SourceId) (l : Level) :
    (s.wakeEffect n l).1.core = s.core ∧ (s.wakeEffect n l).2 = [] := by
  unfold State.wakeEffect
  split
  · exact arrival_busy h n
  · exact ⟨rfl, rfl⟩

theorem abort_platform (s : State) (c : AbortCause) : (s.abort c).1.platform = .returning :=
  State.enterPlatform_platform _ _

theorem startExit_platform (s : State) (c : WakeCause) :
    s.startExit c = (s, []) ∨ (s.startExit c).1.platform = .waking := by
  unfold State.startExit
  split
  · exact .inl rfl
  · refine .inr ?_
    dsimp only
    split
    · exact State.enterPlatform_platform _ _
    · exact State.enterPlatform_platform _ _

/-- A state with the core of another may stand for it before the same work. -/
theorem FlowAct.of_core {x y : Act} (h : FlowAct x) (hc : y.1.core = x.1.core) (hw : y.2 = x.2) : FlowAct y := by
  obtain ⟨-, hctx, -, -, hactive⟩ := seqView_eq_iff.mp (seqView_of_core hc)
  refine ⟨h.1.of_core hc, ?_⟩
  rw [hctx, hactive, hw]
  exact h.2

namespace State.FlowSound

variable {s t : State}

theorem arrival (h : s.FlowSound) (n : SourceId) : FlowAct (s.arrival n) := by
  obtain ⟨hc, hw⟩ | ⟨u, c, hc, e⟩ | ⟨u, c, hc, e⟩ := arrival_effect s n
  · exact ⟨h.of_core hc, .inl (hw ▸ undriven_nil)⟩
  · exact e ▸ (h.of_core hc).startExit c
  · exact e ▸ (h.of_core hc).abort c

/-- R106: of the arrivals of one edge, at most one starts a plan or a rollback: those after it find it under way. -/
theorem arrivals (h : s.FlowSound) (ns : List SourceId) : FlowAct (s.arrivals ns) := by
  induction ns generalizing s with
  | nil => exact .nil h
  | cons n ns ih =>
    have busy (hp : (s.arrival n).1.platform = .waking ∨ (s.arrival n).1.platform = .returning) :
        FlowAct (s.arrivals (n :: ns)) := by
      obtain ⟨hc, hw⟩ := arrivals_busy hp ns
      exact (h.arrival n).of_core hc (by rw [arrivals_cons, hw, List.append_nil])
    have idle (hs : (s.arrival n).1.FlowSound) (hw : (s.arrival n).2 = []) : FlowAct (s.arrivals (n :: ns)) := by
      rw [arrivals_cons, hw, List.nil_append]
      exact ih hs
    obtain ⟨hc, hw⟩ | ⟨u, c, hc, e⟩ | ⟨u, c, -, e⟩ := arrival_effect s n
    · exact idle (h.of_core hc) hw
    · obtain hx | hp := startExit_platform u c
      · exact idle (by rw [e, hx]; exact h.of_core hc) (by rw [e, hx])
      · exact busy (.inl (e ▸ hp))
    · exact busy (.inr (e ▸ abort_platform u c))

theorem wakeEffect (h : s.FlowSound) (n : SourceId) (l : Level) : FlowAct (s.wakeEffect n l) := by
  unfold State.wakeEffect
  split
  · exact h.arrival n
  · exact .nil h

/-- R107, R141: after the abort of a veto the wake finds RETURNING. -/
theorem vetoWakeEffect (h : s.FlowSound) (n : SourceId) (l : Level) : FlowAct (s.vetoWakeEffect n l) := by
  obtain ⟨-, -, e⟩ | ⟨-, e⟩ := vetoWakeEffect_cases s n l
  · rw [e]
    obtain ⟨hc, hw⟩ := wakeEffect_busy (.inr (abort_platform s .veto)) n l
    exact (h.abort .veto).of_core hc (by rw [hw, List.nil_append])
  · exact e ▸ h.wakeEffect n l

/-! ## The sequencer's own events -/

theorem emitPlaced (h : s.FlowSound) : FlowAct s.emitPlaced := by
  unfold State.emitPlaced
  split
  · rename_i hw
    split
    · exact h.emit_completes (h.flow.planWait (by simp [hw, Wait.ofPlan])) _ _ _
    · exact .nil h
  · exact .nil h

theorem syncComplete (h : s.FlowSound) : FlowAct s.syncComplete := by
  unfold State.syncComplete
  split
  · rename_i hw
    split
    · exact h.completeStep (h.flow.planWait (by simp [hw, Wait.ofPlan]))
    · exact .nil h
  · exact .nil h

theorem rollbackPlaced (h : s.FlowSound) : FlowAct s.rollbackPlaced := by
  unfold State.rollbackPlaced
  split
  · rename_i hw
    split
    · exact h.recordEmit_done (h.flow.rollbackWait (by simp [hw, Wait.ofRollback])) _ _ _
    · exact .nil h
  · exact .nil h

theorem portWentDown (h : s.FlowSound) (p : Port) : FlowAct (s.portWentDown p) := by
  unfold State.portWentDown
  split
  · rename_i hw
    split
    · exact h.emit_completes (h.flow.planWait (by simp [hw, Wait.ofPlan])) _ _ _
    · exact .nil h
  · rename_i hw
    split
    · exact h.completeStep (h.flow.planWait (by simp [hw, Wait.ofPlan]))
    · exact .nil h
  · rename_i hw
    split
    · exact h.recordEmit_done (h.flow.rollbackWait (by simp [hw, Wait.ofRollback])) _ _ _
    · exact .nil h
  · exact .nil h

theorem expireIf (h : s.FlowSound) (k : Wait → Bool) : FlowAct (s.expireIf k) := by
  unfold State.expireIf
  split
  · exact h.expireWait
  · exact .nil h

/-! ## The configuration unit -/

/-- R171: an apply while no plan runs finds nothing waiting and nothing to be undone. -/
theorem applySelected (h : s.FlowSound) (hp : s.platform.planRunning = false) (sel : ItemId → Bool) :
    (s.applySelected sel).FlowSound := by
  obtain ⟨⟨hplat, hctx, hundo⟩, hsound⟩ := ApplySound.applySelected s sel
  obtain ⟨hplans, hdoms⟩ := hsound ⟨h.plans, h.domains⟩
  have hnone := h.flow.rest hp
  have hidle := h.flow.idle_of_none hnone
  have hu := h.flow.undo (by simp [hnone]) (by simp [hnone])
  have hrec := h.flow.record hnone
  refine ⟨hplans, hdoms, ?_⟩
  rw [hplat, hctx, hundo, hu]
  exact ⟨by simp [hrec], by simp [hidle], by simp [hidle, Wait.ofPlan], by simp [hidle],
    by simp [hidle, Wait.ofRollback], fun _ _ => rfl, h.flow.record, h.flow.rest⟩

theorem writeEffect (h : s.FlowSound) (e : WriteEffect s t) : t.FlowSound := by
  obtain hc | ⟨c, -, rfl⟩ | ⟨d, b, rfl⟩ | ⟨sel, hp, rfl⟩ := e
  · exact h.of_core hc
  · exact ⟨plansSound_of_active h.plans rfl, h.domains.of_eq rfl rfl, h.flow⟩
  · exact h.of_seqView (seqView_setDom s d _) (h.domains.setDom_same rfl rfl)
  · exact h.applySelected hp sel

theorem serveRequest (h : s.FlowSound) : s.serveRequest.FlowSound := by
  obtain ⟨f, rest, -, -, e⟩ | e := serveRequest_cases s
  · rw [e]
    refine State.FlowSound.of_core ?_ (core_respond _ _)
    have hq : (s.setQueue .cfgIn rest).FlowSound := h.of_core (core_setQueue s _ _)
    obtain e | ⟨d, e⟩ := execute_effect (s.setQueue .cfgIn rest) f
    · exact hq.writeEffect e
    · exact e ▸ hq.of_seqView (seqView_setDom _ d _) (hq.domains.setDom_same rfl rfl)
  · rwa [e]

end State.FlowSound

/-! ## Pieces of work -/

theorem flagReports_undriven (e : SignalEntry) (l : Level) : Undriven (flagReports e l) := by
  unfold flagReports
  simp only [undriven_append]
  refine ⟨⟨⟨⟨?_, ?_⟩, ?_⟩, ?_⟩, ?_⟩
  all_goals split <;> try split
  all_goals simp [Work.drives]

theorem takeHead_undriven (s : State) (p : Port) (f : Frame) (fate : Fate) : Undriven (s.takeHead p f fate).2 := by
  unfold State.takeHead
  split
  · refine undriven_append.mpr ⟨?_, by simp [Work.drives]⟩
    unfold State.sigReports
    split
    · simp
    · refine undriven_append.mpr ⟨?_, flagReports_undriven _ _⟩
      split <;> simp [Work.drives]
  · simp [Work.drives]

theorem judgeHead_undriven (s : State) (p : Port) : Undriven (s.judgeHead p).2 := by
  obtain ⟨f, -, -, h⟩ | h := judgeHead_cases s p
  · exact h ▸ takeHead_undriven s p f _
  · simp [h]

theorem settle_undriven (s : State) (b : Before) : Undriven (s.settle b).2 := by
  obtain ⟨p, -, h⟩ | ⟨-, h⟩ | h := settle_cases s b <;> simp [h, Work.drives]

/-- A piece of work that carries a plan on is ready; every other finds the flow sound. -/
theorem State.FlowSound.micro {s : State} (h : s.FlowSound) {w : Work}
    (hw : w.drives = true → Ready s.ctx s.active w) : FlowAct (micro w s) := by
  cases w with
  | start i =>
    obtain ⟨-, ⟨j, hj, hm⟩ | ⟨hj, -⟩⟩ := hw rfl
    · obtain rfl := Work.start.inj hj
      exact h.startStep hm
    · contradiction
  | rollback =>
    obtain ⟨-, ⟨j, hj, -⟩ | ⟨-, hp⟩⟩ := hw rfl
    · contradiction
    · exact h.nextRecord hp
  | onReport d => exact h.takeOn d
  | offReport d => exact h.takeOff d
  | faultReport d c => exact h.takeFault d c
  | overrangeReport d => exact h.takeOverrange d
  | holdOver d => exact h.holdOver d
  | tripCause c => exact h.takeTrip c
  | arrival n => exact h.arrival n
  | levelReport p a g l => exact h.levelReport p a g l
  | requestEffect => exact h.requestEffect
  | tripEffect l => exact h.tripEffect l
  | vetoEffect l => exact h.vetoEffect l
  | releaseEffect l => exact h.releaseEffect l
  | wakeEffect n l => exact h.wakeEffect n l
  | vetoWakeEffect n l => exact h.vetoWakeEffect n l
  | carry fate f => exact .nil (h.of_core (core_carryFate s fate f))
  | judge p => exact .undriven (h.of_core (core_judgeHead s p)) (judgeHead_undriven s p)
  | portDown p => exact h.portWentDown p
  | serve => exact .nil h.serveRequest
  | settle b => exact .undriven (h.of_core (core_settle s b)) (settle_undriven s b)

/-- A quiet report finds nothing waiting, and leaves the sequencer's side. -/
theorem micro_quiet {s : State} (hi : s.ctx.wait = .idle) {w : Work} (hw : w.quiet = true) :
    (micro w s).1.seqView = s.seqView ∧ (micro w s).2 = [] := by
  cases w <;> simp only [Work.quiet, Bool.false_eq_true] at hw
  case onReport d => simp [micro, State.takeOn, State.pinnedWaitTest, hi]
  case offReport d => simp [micro, State.takeOff, hi]
  case holdOver d => simp [micro, State.holdOver, State.judgeDeferred, hi]

/-- Each piece of work keeps the flow of the state and the order of the work still to do. -/
theorem flow_micro (w : Work) (ws : List Work) (s : State) (h : FlowAct (s, w :: ws)) :
    FlowAct ((micro w s).1, (micro w s).2 ++ ws) := by
  obtain ⟨hs, hw | ⟨pre, v, post, hsplit, hpre, hready, hpost⟩⟩ := h
  · obtain ⟨hdrive, hrest⟩ := undriven_cons.mp hw
    exact (hs.micro fun hd => by simp [hdrive] at hd).append hrest
  · cases pre with
    | nil =>
      obtain ⟨rfl, rfl⟩ := List.cons.inj hsplit
      exact (hs.micro fun _ => hready).append hpost
    | cons x pre =>
      obtain ⟨rfl, rfl⟩ := List.cons.inj hsplit
      obtain ⟨hquiet, hpre⟩ := List.forall_mem_cons.mp hpre
      obtain ⟨hview, hnone⟩ := micro_quiet hready.1 hquiet
      obtain ⟨-, hctx, -, -, hactive⟩ := seqView_eq_iff.mp hview
      have hnext := hs.micro (w := w) fun hd => by cases w <;> simp_all [Work.quiet, Work.drives]
      refine ⟨hnext.1, ?_⟩
      dsimp only
      rw [hnone, hctx, hactive]
      exact .inr ⟨pre, v, post, rfl, hpre, hready, hpost⟩

/-! ## Beginnings -/

/-- R178 to R181: the ROM plans pass the judgement of R168. -/
theorem reset_plansSound : State.reset.PlansSound := by
  have judged (k : SlotId) : State.reset.judgePlan k (romSet.plans.get k) = .success := by
    revert k
    decide +kernel
  intro k
  obtain ⟨hcount, hshape, hrefs⟩ := judgePlan_success (judged k)
  exact ⟨hcount, hshape, fun i t ht => stepReference_spec (hrefs _ (Plan.mem_live ht))⟩

/-- R65, R82: after power-on reset the domains are sound under any power-good levels. -/
theorem powerOn_domainsSound (s : State) (strap : Strap) (wakeA wakeB low : Bool) (pg : BitVec 10) :
    (s.powerOn strap wakeA wakeB low pg).DomainsSound := by
  have hdom (d : DomainId) : (s.powerOn strap wakeA wakeB low pg).dom d = poweredDomain pg d := by
    simp [State.powerOn, State.dom, get_eq_getElem]
  have hcfg (d : DomainId) : (s.powerOn strap wakeA wakeB low pg).cfg d = romDomains.get d := rfl
  have hgraph : graphOk romDomains = true := by decide +kernel
  refine (domainsSound_iff _).mpr ⟨hgraph, fun d => ?_⟩
  rw [hdom, hcfg]
  unfold poweredDomain
  dsimp only
  split
  · rename_i hc
    simp only [Bool.and_eq_true, Option.isNone_iff_eq_none] at hc
    obtain ⟨⟨hpres, -⟩, hparent⟩ := hc
    refine ⟨?_, fun _ => (parentReady_iff _ d).mpr fun p hp => ?_⟩
    · cases hpg : pg.getLsbD d.val <;> simp [DomainRuntime.Fits, hpres, resetDomain]
    · rw [hcfg, hparent] at hp
      contradiction
  · exact ⟨fits_off rfl, nofun⟩

theorem powerOn_flow (s : State) (strap : Strap) (wakeA wakeB low : Bool) (pg : BitVec 10) :
    (s.powerOn strap wakeA wakeB low pg).FlowSound :=
  ⟨plansSound_of_active reset_plansSound rfl, powerOn_domainsSound s strap wakeA wakeB low pg, .released _ _⟩

theorem State.FlowSound.begins {s : State} (h : s.FlowSound) {a : Act} (ha : s.Begins a) : FlowAct a := by
  cases ha with
  | aside hc hw => exact ⟨h.of_core hc, .inl hw⟩
  | reset => exact .nil (powerOn_flow s _ _ _ _ _)
  | autoOn => exact (powerOn_flow s _ _ _ _ _).startExit _
  | pgRise d => exact ⟨h.of_seqView (seqView_pgRise s d) (h.domains.pgRise d), .inl (pgRise_undriven s d)⟩
  | pgFall d => exact ⟨h.of_seqView (seqView_pgFall s d) (h.domains.pgFall d), .inl (pgFall_undriven s d)⟩
  | holdExpiry d =>
    exact ⟨h.of_seqView (seqView_holdExpiry s d) (h.domains.holdExpiry d), .inl (holdExpiry_undriven s d)⟩
  | overrangeExpiry d =>
    exact ⟨h.of_seqView (seqView_overrangeExpiry s d) (h.domains.overrangeExpiry d),
      .inl (overrangeExpiry_undriven s d)⟩
  | emitPlaced => exact h.emitPlaced
  | syncComplete => exact h.syncComplete
  | rollbackPlaced => exact h.rollbackPlaced
  | expireIf kind => exact h.expireIf kind
  | arrivals l ns => exact (h.of_core (core_setLine s l true)).arrivals ns

theorem State.FlowSound.exec {s t : State} (h : s.FlowSound) {c : Instr} (e : exec c s = .next t) : t.FlowSound := by
  obtain hc | ⟨b, a, ha, hf⟩ := exec_begins e
  · exact h.of_core hc
  · have hend := event_keeps (P := fun ws u => FlowAct (u, ws)) flow_micro
      ((h.begins ha).append (vs := [.settle b]) (by simp [Work.drives])) hf
    exact hend.1

/-! ## Between events -/

theorem waitsFor_ofPlan {t : Step} {w : Wait} (h : t.waitsFor = some w) : w.ofPlan = true := by
  unfold Step.waitsFor at h
  split at h
  case h_9 => contradiction
  all_goals exact Option.some.inj h ▸ rfl

theorem waitsFor_enable {t : Step} {d : DomainId} (h : t.waitsFor = some (.enable d)) :
    t.kind = .enable ∧ t.place = .domain d := by
  unfold Step.waitsFor at h
  split at h
  case h_1 e hk hp =>
    obtain rfl := Wait.enable.inj (Option.some.inj h)
    exact ⟨hk, hp⟩
  all_goals simp at h

/-- R22: the flow of a context whose current step waits. -/
theorem flow_of_stepWaits {s : State} (hplans : s.PlansSound) (hrec : s.RecordsPresent) (hs : s.StepWaits)
    (hm : MayStart s.ctx s.active (s.ctx.index + 1)) (hu : s.ctx.portion ≠ .check → s.undo = [])
    (hrun : s.platform.planRunning = true) : Flow s.platform s.ctx s.undo s.active := by
  obtain ⟨t, ht, hw⟩ := hs
  have hplan := waitsFor_ofPlan hw
  refine ⟨hrec, fun d hd => ?_, fun _ => hm, fun hp => ?_, fun hr => ?_, fun hc _ => hu hc, fun hn => ?_,
    by simp [hrun]⟩
  · obtain hd | hd := hd
    · rw [hd] at hw
      obtain ⟨hk, hp⟩ := waitsFor_enable hw
      unfold State.currentStep State.runningPlan at ht
      cases hslot : s.ctx.slot with
      | none => simp [hslot] at ht
      | some k =>
        rw [hslot] at ht
        obtain ⟨e, he, hpres⟩ := ((hplans k).2.2 _ t ht).1 (.inl hk)
        obtain rfl := DomOrPort.domain.inj (hp.symm.trans he)
        exact hpres
    · simp [hd, Wait.ofPlan] at hplan
  · simp [hp, Wait.ofPlan] at hplan
  · cases hk : s.ctx.wait <;> simp [hk, Wait.ofPlan, Wait.ofRollback] at hplan hr
  · have := hm.1
    simp [hn, Portion.stepped] at this

/-- R50 to R52: a rollback's record waits in a rollback's wait, for the domain it names. -/
theorem waits_ofRollback {r : UndoRecord} {w : Wait} (h : r.waits w) :
    w.ofRollback = true ∧ ∀ d, w = .rollbackEnable d → r = .domain d true := by
  unfold UndoRecord.waits at h
  split at h
  · obtain rfl | rfl := h
    · exact ⟨rfl, fun d hd => by rw [Wait.rollbackEnable.inj hd]⟩
    · exact ⟨rfl, nofun⟩
  · subst h
    exact ⟨rfl, nofun⟩
  · subst h
    exact ⟨rfl, nofun⟩

/-- Between two events, a sound sequencer with its records' domains present keeps the flow. -/
theorem flow_of_sequencerSound {s : State} (h : s.SequencerSound) (hrec : s.RecordsPresent) :
    Flow s.platform s.ctx s.undo s.active := by
  obtain ⟨hplans, hctx, -⟩ := h
  unfold State.ContextSound at hctx
  dsimp only at hctx
  cases hp : s.platform with
  | run | suspended | hibernated | softOff | tripped =>
    rw [hp] at hctx
    obtain ⟨hc, hu⟩ := hctx
    rw [hc, hu]
    exact .released _ _
  | checking | parked =>
    rw [hp] at hctx
    obtain ⟨-, hpor, hwaits, -, ⟨k, hk, hlt⟩, -, -⟩ := hctx
    rw [← hp]
    refine flow_of_stepWaits hplans hrec hwaits ⟨by simp [hpor, Portion.stepped], fun _ => ⟨k, hk, hlt⟩⟩
      (fun hc => absurd hpor hc) (by simp [hp, PlatformState.planRunning])
  | committing =>
    rw [hp] at hctx
    obtain ⟨-, hpor, hwaits, -, hu, -, -⟩ := hctx
    rw [← hp]
    exact flow_of_stepWaits hplans hrec hwaits ⟨by simp [hpor, Portion.stepped], by simp [hpor]⟩ (fun _ => hu)
      (by simp [hp, PlatformState.planRunning])
  | tripping =>
    rw [hp] at hctx
    obtain ⟨-, hpor, hwaits, hu, -, -⟩ := hctx
    rw [← hp]
    exact flow_of_stepWaits hplans hrec hwaits ⟨by simp [hpor, Portion.stepped], by simp [hpor]⟩ (fun _ => hu)
      (by simp [hp, PlatformState.planRunning])
  | waking =>
    rw [hp] at hctx
    obtain ⟨-, hpor, hwaits | ⟨hpin, -⟩, hu, -, -⟩ := hctx
    · rw [← hp]
      exact flow_of_stepWaits hplans hrec hwaits ⟨by simp [hpor, Portion.stepped], by simp [hpor]⟩ (fun _ => hu)
        (by simp [hp, PlatformState.planRunning])
    · exact ⟨hrec, by simp [hpin], by simp [hpin, Wait.ofPlan], fun _ => hpor, by simp [hpin, Wait.ofRollback],
        fun _ _ => hu, by simp [hpor], nofun⟩
  | returning =>
    rw [hp] at hctx
    obtain ⟨-, hpor, ⟨r, hr, hwaits⟩, -⟩ := hctx
    obtain ⟨hroll, henable⟩ := waits_ofRollback hwaits
    refine ⟨hrec, fun d hd => ?_, fun hpl => ?_, fun hpin => ?_, fun _ => hpor, fun _ hn => absurd hpor hn,
      by simp [hpor], nofun⟩
    · obtain hd | hd := hd
      · simp [hd, Wait.ofRollback] at hroll
      · exact hrec d true (.inr (by rw [hr, henable d hd]))
    · cases hk : s.ctx.wait <;> simp [hk, Wait.ofPlan, Wait.ofRollback] at hpl hroll
    · simp [hpin, Wait.ofRollback] at hroll

end Sys2Proof.Machine

open Sys2Proof Sys2Proof.Machine in
/-- Settles O60: the flow of plans holds between the pieces of work of every event, and gives the presence of the
domains that the domain controller is asked to enable and that an apply may not remove. -/
theorem stepKeepsDomainsSound : Obligations.StepKeepsDomainsSound := by
  rintro s t ⟨hseq, hrec, hdom⟩ hstep
  have ht : t.FlowSound := step_keeps (P := State.FlowSound) (fun _ _ _ h e => h.exec e)
    (fun _ _ h => h.of_core rfl) (fun _ h => h.of_core (core_tick _))
    ⟨hseq.1, hdom, flow_of_sequencerSound hseq hrec⟩ hstep
  exact ⟨ht.flow.records, ht.domains⟩
end

section
/-! # Plan steps in closed form

The end of a step as the statements write it, the undo stack's push, the emission of a signal, and what an event comes
to when the plan proceeds to a DELAY step. -/

namespace Sys2Proof.Machine

open Sys2Proof

/-! ## Waits and budgets -/

/-- R90: a budget is due exactly when it is over. -/
theorem budgetDue_iff (s : State) : s.budgetDue = true ↔ s.BudgetOver := by
  unfold State.budgetDue State.BudgetOver
  cases s.ctx.budget with
  | none => simp
  | some b =>
    simp only [expired, elapsed, Option.some.injEq, exists_eq_left']
    exact decide_eq_true_iff

theorem expireIf_over {s : State} {kind : Wait → Bool} (hk : kind s.ctx.wait = true) (h : s.BudgetOver) :
    s.expireIf kind = s.expireWait := by
  simp [State.expireIf, hk, (budgetDue_iff s).mpr h]

/-- R26, R90: a budget that still runs ends no wait. -/
theorem expireIf_running {s : State} (h : ¬ s.BudgetOver) (kind : Wait → Bool) : s.expireIf kind = (s, []) := by
  have hd : s.budgetDue = false := by simpa [← budgetDue_iff] using h
  simp [State.expireIf, hd]

/-- An expiry command leaves a wait of another kind. -/
theorem expireIf_other {s : State} {kind : Wait → Bool} (hk : kind s.ctx.wait = false) : s.expireIf kind = (s, []) := by
  simp [State.expireIf, hk]

/-! ## The end of a step -/

theorem completeStep_eq (s : State) : s.completeStep = s.proceeding := rfl

theorem recordDone_eq (s : State) : s.recordDone = s.recordOver := rfl

/-- R41: the trip cause of a failed step names the entry in the slots of Table 1-2. -/
theorem stepTripCause_eq (slot : Option SlotId) (t : Step) (i : Nat) :
    stepTripCause slot t i =
      if t.kind = .retry then .retryExhausted i
      else if slot = some 0 ∨ slot = some 1 ∨ slot = some 2 then .entryFailed i
      else .exitFailed i := by
  unfold stepTripCause
  cases slot with
  | none => simp
  | some k =>
    have hk : k.val ≤ 2 ↔ some k = some 0 ∨ some k = some 1 ∨ some k = some 2 := by
      simp only [Option.some.injEq, Fin.ext_iff]
      have := k.isLt
      simp only [Fin.val_zero, Fin.val_one, Fin.val_two]
      omega
    simp [hk]

/-- R39: a failure under CONTINUE proceeds with the failure mark set. -/
theorem failing_cont {t : Step} (h : t.action = .cont) (s : State) (i : Nat) :
    s.failing t i =
      (State.notify { (s.setWait .idle).leavePark with
        ctx := { (s.setWait .idle).leavePark.ctx with failMark := true } } .stepFailed, [.start (i + 1)]) := by
  unfold State.failing
  rw [h]

/-- R40: a failure under ABORT aborts the entry. -/
theorem failing_abort {t : Step} (h : t.action = .abort) (s : State) (i : Nat) :
    s.failing t i = (s.setWait .idle).abort (if t.kind = .park then .parkLimit else .step i) := by
  unfold State.failing
  rw [h]

/-- R41: a failure under TRIP is a trip cause. -/
theorem failing_trip {t : Step} (h : t.action = .trip) (s : State) (i : Nat) :
    s.failing t i = (s.setWait .idle, [.tripCause (stepTripCause s.ctx.slot t i)]) := by
  unfold State.failing
  rw [h, stepTripCause_eq]

theorem failStep_eq {s : State} {t : Step} (h : s.currentStep = some t) : s.failStep = s.failing t s.ctx.index := by
  obtain ⟨hn, -⟩ | ⟨u, hu, ⟨ha, e⟩ | ⟨ha, e⟩ | ⟨ha, e⟩⟩ := failStep_cases s
  · simp [h] at hn
  all_goals obtain rfl := Option.some.inj (h.symm.trans hu)
  · rw [e, failing_cont ha]
  · rw [e, failing_abort ha]
  · rw [e, failing_trip ha]

@[simp] theorem setDom_dom (s : State) (d : DomainId) : s.setDom d (s.dom d) = s := by
  simp [State.setDom, State.dom, Vector.get_eq_getElem]

theorem timeoutCounted_eq (s : State) (d : DomainId) : s.timeoutCounted d = s.timedOut d := by
  unfold State.timeoutCounted State.timedOut DomainRuntime.count
  split
  · rfl
  · rw [setDom_dom]

theorem seqView_timedOut (s : State) (d : DomainId) : (s.timedOut d).seqView = s.seqView := rfl

/-! ## The undo stack -/

theorem sameSubject_signal (u : UndoRecord) (p : Port) (n : Byte) (l : Level) :
    u.sameSubject (.signal p n l) = true ↔ ∃ prior, u = .signal p n prior := by
  cases u <;> simp [UndoRecord.sameSubject]

theorem sameSubject_domain (u : UndoRecord) (d : DomainId) (b : Bool) :
    u.sameSubject (.domain d b) = true ↔ u = .domain d true ∨ u = .domain d false := by
  cases u with
  | domain e c => cases c <;> simp [UndoRecord.sameSubject]
  | signal p n l => simp [UndoRecord.sameSubject]

/-- R43: a change of a subject without a record pushes one in the check portion. -/
theorem pushUndo_fresh {s : State} {r : UndoRecord} (hp : s.ctx.portion = .check)
    (hf : ∀ u ∈ s.undo, ¬ u.sameSubject r = true) : s.pushUndo r = { s with undo := r :: s.undo } := by
  have hall : s.undo.all (fun u => !u.sameSubject r) = true := by simpa using hf
  simp [State.pushUndo, hp, hall]

/-- R43: outside the check portion, and for a subject with a record, the stack stands. -/
theorem pushUndo_kept {s : State} {r : UndoRecord}
    (h : s.ctx.portion ≠ .check ∨ ∃ u ∈ s.undo, u.sameSubject r = true) : s.pushUndo r = s := by
  unfold State.pushUndo
  split
  · rename_i hc
    obtain ⟨hp, hall⟩ := hc
    obtain hn | ⟨u, hu, hs⟩ := h
    · exact absurd hp hn
    · simpa [hs] using List.all_eq_true.mp hall u hu
  · rfl

/-! ## Emissions -/

/-- R32, R43: the undo record of an emission goes on the stack before the frame leaves. -/
def State.emitRecorded (s : State) (p : Port) (sig : Byte) (l : Level) : State :=
  if s.emitted p sig = l then s else s.pushUndo (.signal p sig (s.emitted p sig))

theorem emitStep_eq (s : State) (p : Port) (sig : Byte) (l : Level) :
    s.emitStep p sig l = ((s.emitRecorded p sig l).sendOwn p sig l).setEmitted p sig l := rfl

/-- The record of an emission changes the stack alone. -/
theorem emitRecorded_eq (s : State) (p : Port) (sig : Byte) (l : Level) :
    s.emitRecorded p sig l = { s with undo := (s.emitRecorded p sig l).undo } := by
  unfold State.emitRecorded
  split
  · rfl
  · obtain ⟨-, -, e⟩ | e := pushUndo_cases s (.signal p sig (s.emitted p sig)) <;> rw [e]

theorem sendOwn_up {s : State} {p : Port} (h : (s.port p).linkUp = true) (hq : s.hasPlace (ownQueue p) = true)
    (sig : Byte) (l : Level) :
    s.sendOwn p sig l = s.setQueue (ownQueue p) (s.queue (ownQueue p) ++ [ownSignal sig l]) := by
  simp [State.sendOwn, State.enqueue, h, hq]

theorem sendOwn_down {s : State} {p : Port} (h : (s.port p).linkUp = false) (sig : Byte) (l : Level) :
    s.sendOwn p sig l = s.discard p 1 := by
  simp [State.sendOwn, h]

theorem sendOwn_undo (s : State) (p : Port) (sig : Byte) (l : Level) : (s.sendOwn p sig l).undo = s.undo := by
  unfold State.sendOwn
  split <;> simp

theorem sendOwn_emitted (s : State) (p : Port) (sig : Byte) (l : Level) (r : Port) (n : Byte) :
    (s.sendOwn p sig l).emitted r n = s.emitted r n := by
  unfold State.sendOwn
  split <;> cases r <;> simp [State.emitted]

theorem sendOwn_head (s : State) (p : Port) (sig : Byte) (l : Level) (r : Port) :
    ((s.sendOwn p sig l).port r).head = (s.port r).head := by
  unfold State.sendOwn
  split
  · simp
  · cases p <;> cases r <;> rfl

theorem emitted_setEmitted_of_ne (s : State) {p r : Port} {sig n : Byte} (l : Level) (h : r ≠ p ∨ n ≠ sig) :
    (s.setEmitted p sig l).emitted r n = s.emitted r n := by
  have hsig (hn : n ≠ sig) : n.toFin ≠ sig.toFin := fun e => hn (BitVec.eq_of_toFin_eq e)
  cases p with
  | up =>
    cases r with
    | up => exact get_set_of_ne _ _ (hsig (h.resolve_left (· rfl)))
    | dn => rfl
  | dn =>
    cases r with
    | up => rfl
    | dn => exact get_set_of_ne _ _ (hsig (h.resolve_left (· rfl)))

@[simp] theorem queue_setEmitted (s : State) (p : Port) (sig : Byte) (l : Level) (q : QueueId) :
    (s.setEmitted p sig l).queue q = s.queue q := by
  cases p <;> rfl

@[simp] theorem port_setEmitted (s : State) (p : Port) (sig : Byte) (l : Level) (r : Port) :
    (s.setEmitted p sig l).port r = s.port r := by
  cases p <;> rfl

theorem emitStep_undo (s : State) (p : Port) (sig : Byte) (l : Level) :
    (s.emitStep p sig l).undo = (s.emitRecorded p sig l).undo := by
  rw [emitStep_eq, State.setEmitted_undo, sendOwn_undo]

/-- R43: an emission that changes no level, one outside the check portion and one of a key with a record push none. -/
theorem emitRecorded_undo_kept {s : State} {p : Port} {sig : Byte} {l : Level}
    (h : s.emitted p sig = l ∨ s.ctx.portion ≠ .check ∨ ∃ prior, UndoRecord.signal p sig prior ∈ s.undo) :
    (s.emitRecorded p sig l).undo = s.undo := by
  unfold State.emitRecorded
  split
  · rfl
  · rename_i hne
    rw [pushUndo_kept]
    exact (h.resolve_left hne).imp_right fun ⟨prior, hm⟩ => ⟨_, hm, (sameSubject_signal ..).mpr ⟨prior, rfl⟩⟩

theorem emitRecorded_port (s : State) (p : Port) (sig : Byte) (l : Level) (r : Port) :
    (s.emitRecorded p sig l).port r = s.port r := by
  rw [emitRecorded_eq]
  rfl

theorem emitRecorded_queue (s : State) (p : Port) (sig : Byte) (l : Level) (q : QueueId) :
    (s.emitRecorded p sig l).queue q = s.queue q := by
  rw [emitRecorded_eq]
  rfl

theorem emitRecorded_emitted (s : State) (p : Port) (sig : Byte) (l : Level) (r : Port) (n : Byte) :
    (s.emitRecorded p sig l).emitted r n = s.emitted r n := by
  rw [emitRecorded_eq]
  rfl

theorem emitStep_headsEmpty {s : State} (h : s.HeadsEmpty) (p : Port) (sig : Byte) (l : Level) :
    (s.emitStep p sig l).HeadsEmpty := by
  have head (r : Port) : ((s.emitStep p sig l).port r).head = (s.port r).head := by
    rw [emitStep_eq, port_setEmitted, sendOwn_head, emitRecorded_port]
  exact ⟨(head .up).trans h.1, (head .dn).trans h.2⟩

end Sys2Proof.Machine

open Sys2Proof Sys2Proof.Machine in
/-- Settles O17: the record is pushed first, then the frame leaves, then the map is written; none of the three looks at
what another writes. -/
theorem emissionWritesQueueMapAndUndo : Obligations.EmissionWritesQueueMapAndUndo := by
  intro p sig l s
  refine ⟨?_, fun r n hn => ?_, fun hup hplace => ?_, fun hdown => ?_, fun h => ?_, fun hne hp hfresh => ?_,
    fun prior hmem => ?_⟩
  · exact State.emitted_setEmitted_self _ p sig l
  · rw [emitStep_eq, emitted_setEmitted_of_ne _ _ hn, sendOwn_emitted, emitRecorded_emitted]
  · have hsend := sendOwn_up (s := s.emitRecorded p sig l) (p := p) (by rwa [emitRecorded_port])
      (by rwa [State.hasPlace, emitRecorded_queue]) sig l
    rw [emitStep_eq, hsend, queue_setEmitted, port_setEmitted, State.queue_setQueue_self, State.port_setQueue,
      emitRecorded_queue, emitRecorded_port]
    exact ⟨by cases l <;> rfl, rfl⟩
  · rw [emitStep_eq, sendOwn_down (by rwa [emitRecorded_port]), emitRecorded_eq]
    cases p <;> exact ⟨rfl, rfl, rfl⟩
  · rw [emitStep_undo]
    exact emitRecorded_undo_kept (h.imp_right .inl)
  · have hpush := pushUndo_fresh (r := .signal p sig (s.emitted p sig)) hp fun u hu hs => by
      obtain ⟨prior, rfl⟩ := (sameSubject_signal ..).mp hs
      exact hfresh prior hu
    rw [emitStep_undo, State.emitRecorded, if_neg hne, hpush]
  · rw [emitStep_undo]
    exact emitRecorded_undo_kept (.inr (.inr ⟨prior, hmem⟩))
end

section
/-! # The events that end a step's wait

What the commands of a plan's own waits come to, where the step after it is a DELAY: the plan then stops in that
DELAY. -/

namespace Sys2Proof.Machine

open Sys2Proof

/-! ## The commands -/

theorem exec_emitFramePlaced (s : State) : exec .emitFramePlaced s = s.event s.emitPlaced := rfl

theorem exec_syncComplete (s : State) : exec .syncComplete s = s.event s.syncComplete := rfl

theorem exec_budgetExpiry (s : State) : exec .budgetExpiry s = s.event (s.expireIf Wait.ofStep) := rfl

theorem exec_parkLimit (s : State) : exec .parkLimit s = s.event (s.expireIf (· == .release)) := rfl

/-! ## What work comes to -/

theorem headsEmpty_of_ports {s t : State} (h : s.HeadsEmpty) (hu : t.up = s.up) (hd : t.dn = s.dn) : t.HeadsEmpty := by
  unfold State.HeadsEmpty
  rw [hu, hd]
  exact h

theorem comesTo_nil {s : State} (h : s.HeadsEmpty) : comesTo (s, []) s := ⟨0, by decide, quiesce_nil 0 s, h⟩

theorem delaysAt_congr {s t : State} (hs : t.ctx.slot = s.ctx.slot) (ha : t.active = s.active) {i : Nat} {x : Step} :
    t.delaysAt i x ↔ s.delaysAt i x := by
  unfold State.delaysAt State.runningPlan
  rw [hs, ha]

/-- A plan that goes on to a DELAY step waits in it. -/
theorem comesTo_delaying {s : State} {i : Nat} {t : Step} (hd : s.delaysAt i t) (h : s.HeadsEmpty) :
    comesTo (s, [.start i]) (s.delaying i t) :=
  ⟨1, by decide, quiesce_one (startStep_delays hd), h⟩

/-! ## PARKED is left -/

/-- R24, R127: CHECKING shows the pattern of PARKED, so the indicator stands. -/
theorem leavePark_parked {s : State} (h : s.platform = .parked) :
    s.leavePark = State.notify { s with platform := .checking } .stateChanged := by
  simp [State.leavePark, State.enterPlatform, h, patternOf]

theorem leavePark_other {s : State} (h : s.platform ≠ .parked) : s.leavePark = s := if_neg h

/-- R24: leaving PARKED touches the platform state and the notices alone. -/
theorem leavePark_shape (s : State) :
    s.leavePark = { s with platform := s.leavePark.platform, notices := s.leavePark.notices } := by
  by_cases h : s.platform = .parked
  · rw [leavePark_parked h]
    rfl
  · rw [leavePark_other h]

theorem leavePark_setWait (s : State) (w : Wait) : (s.setWait w).leavePark = s.leavePark.setWait w := by
  by_cases h : s.platform = .parked
  · rw [leavePark_parked h, leavePark_parked (s := s.setWait w) h]
    rfl
  · rw [leavePark_other h, leavePark_other (s := s.setWait w) h]

theorem leavePark_headsEmpty {s : State} (h : s.HeadsEmpty) : s.leavePark.HeadsEmpty := by
  rw [leavePark_shape]
  exact h

/-- R24: a step that completes before a DELAY step leaves the plan waiting in it. -/
theorem proceeding_delays {s : State} {i : Nat} {t : Step} (hi : s.ctx.index + 1 = i) (hd : s.delaysAt i t)
    (h : s.HeadsEmpty) : comesTo s.proceeding (((s.setWait .idle).leavePark).delaying i t) := by
  subst hi
  refine comesTo_delaying ((delaysAt_congr ?_ ?_).mpr hd) (leavePark_headsEmpty h)
  · rw [leavePark_ctx]
    rfl
  · rw [leavePark_active]
    rfl

/-! ## EMIT and SYNC -/

theorem hasPlace_ownQueue (s : State) (p : Port) :
    s.hasPlace (ownQueue p) = true ↔ (s.queue (ownQueue p)).length < 8 := by
  cases p <;> exact hasPlace_iff _ _

theorem emitPlaced_open {s : State} {p : Port} {sig : Byte} {l : Level} (hw : s.ctx.wait = .space p sig l)
    (hup : (s.port p).linkUp = true) (hq : (s.queue (ownQueue p)).length < 8) :
    s.emitPlaced = (s.emitStep p sig l).proceeding := by
  unfold State.emitPlaced
  rw [hw]
  simp [hup, (hasPlace_ownQueue s p).mpr hq, completeStep_eq]

theorem emitPlaced_full {s : State} {p : Port} {sig : Byte} {l : Level} (hw : s.ctx.wait = .space p sig l)
    (hq : 8 ≤ (s.queue (ownQueue p)).length) : s.emitPlaced = (s, []) := by
  have hfull : s.hasPlace (ownQueue p) = false := by
    rw [Bool.eq_false_iff, Ne, hasPlace_ownQueue]
    omega
  unfold State.emitPlaced
  rw [hw]
  simp [hfull]

theorem emitPlaced_other {s : State} (hw : ∀ r n m, s.ctx.wait ≠ .space r n m) : s.emitPlaced = (s, []) := by
  unfold State.emitPlaced
  split
  · exact absurd ‹_› (hw _ _ _)
  · rfl

/-- R33: a port has drained when its own queue is empty and no frame of it is in transmission. -/
theorem drained_iff (s : State) (p : Port) :
    s.drained p = true ↔ s.queue (ownQueue p) = [] ∧ ∀ f, (s.port p).sending ≠ some (ownQueue p, f) := by
  unfold State.drained
  rw [Bool.and_eq_true, List.isEmpty_iff]
  refine and_congr_right fun _ => ?_
  cases (s.port p).sending with
  | none => simp
  | some x => simp [Prod.ext_iff]

theorem syncComplete_drained {s : State} {p : Port} (hw : s.ctx.wait = .drain p) (hd : s.drained p = true) :
    s.syncComplete = s.proceeding := by
  unfold State.syncComplete
  rw [hw]
  simp [hd, completeStep_eq]

theorem syncComplete_busy {s : State} {p : Port} (hw : s.ctx.wait = .drain p) (hd : ¬ s.drained p = true) :
    s.syncComplete = (s, []) := by
  unfold State.syncComplete
  rw [hw]
  simp [hd]

theorem syncComplete_other {s : State} (hw : ∀ r, s.ctx.wait ≠ .drain r) : s.syncComplete = (s, []) := by
  unfold State.syncComplete
  split
  · exact absurd ‹_› (hw _)
  · rfl

end Sys2Proof.Machine

open Sys2Proof Sys2Proof.Machine in
/-- Settles O20: the command finds the wait, and what the step completes to is what the event comes to. -/
theorem waitingEmitIsPlaced : Obligations.WaitingEmitIsPlaced := by
  intro p sig l t s h
  rw [exec_emitFramePlaced]
  refine ⟨fun hw hup hq => ?_, fun hw => ?_, fun hw hq => ?_⟩
  · have hctx := emitStep_ctx s p sig l
    rw [emitPlaced_open hw hup hq]
    refine ⟨fun hd => event_comesTo ?_, fun u hu => event_comesTo hu⟩
    exact proceeding_delays (by rw [hctx]) ((delaysAt_congr (by rw [hctx]) (emitStep_active s p sig l)).mpr hd)
      (emitStep_headsEmpty h p sig l)
  · rw [emitPlaced_other hw]
    exact event_comesTo (comesTo_nil h)
  · rw [emitPlaced_full hw hq]
    exact event_comesTo (comesTo_nil h)

open Sys2Proof Sys2Proof.Machine in
/-- Settles O21: the command acts exactly where the port it waits for has drained. -/
theorem waitingSyncCompletes : Obligations.WaitingSyncCompletes := by
  intro p t s h
  rw [exec_syncComplete]
  refine ⟨fun hw hq hs => ?_, fun hw hbusy => ?_, fun hw => ?_⟩
  · rw [syncComplete_drained hw ((drained_iff s p).mpr ⟨hq, hs⟩)]
    exact ⟨fun hd => event_comesTo (proceeding_delays rfl hd h), fun u hu => event_comesTo hu⟩
  · have hd : ¬ s.drained p = true := by
      rintro hd
      obtain ⟨hq, hs⟩ := (drained_iff s p).mp hd
      obtain hn | ⟨f, hf⟩ := hbusy
      · exact hn hq
      · exact hs f hf
    rw [syncComplete_busy hw hd]
    exact event_comesTo (comesTo_nil h)
  · rw [syncComplete_other hw]
    exact event_comesTo (comesTo_nil h)
end

section
/-! # Expiries: BUDGET_EXPIRY and PARK_LIMIT -/

namespace Sys2Proof.Machine

open Sys2Proof

/-! ## A failure under CONTINUE -/

/-- R39: the state a failed step leaves under CONTINUE. -/
def State.continued (s : State) : State :=
  State.notify { (s.setWait .idle).leavePark with
    ctx := { (s.setWait .idle).leavePark.ctx with failMark := true } } .stepFailed

theorem failing_continued {t : Step} (h : t.action = .cont) (s : State) (i : Nat) :
    s.failing t i = (s.continued, [.start (i + 1)]) := failing_cont h s i

theorem continued_eq (s : State) :
    s.continued =
      { s with
        platform := s.leavePark.platform, notices := s.leavePark.notices.raise .stepFailed,
        ctx := { s.ctx with wait := .idle, failMark := true } } := by
  unfold State.continued
  rw [leavePark_setWait, leavePark_shape]
  rfl

theorem continued_delaysAt {s : State} {i : Nat} {t : Step} (h : s.delaysAt i t) : s.continued.delaysAt i t := by
  rw [continued_eq]
  exact h

theorem continued_headsEmpty {s : State} (h : s.HeadsEmpty) : s.continued.HeadsEmpty := by
  rw [continued_eq]
  exact h

/-- R39: a failure under CONTINUE before a DELAY step leaves the plan waiting in it. -/
theorem failing_delays {s : State} {st t : Step} (ha : st.action = .cont) {i : Nat} (hd : s.delaysAt (i + 1) t)
    (h : s.HeadsEmpty) : comesTo (s.failing st i) (s.continued.delaying (i + 1) t) := by
  rw [failing_continued ha]
  exact comesTo_delaying (continued_delaysAt hd) (continued_headsEmpty h)

/-- The DELAY step that a failure goes on to keeps the failure mark, and changes the context alone. -/
theorem continued_delaying_eq (s : State) (i : Nat) (t : Step) :
    ∃ c : PlanContext, c.failMark = true ∧ c.index = i ∧ c.wait = .delay ∧
      s.continued.delaying i t =
        { s with
          platform := s.leavePark.platform, notices := s.leavePark.notices.raise .stepFailed, ctx := c } := by
  rw [continued_eq]
  exact ⟨_, rfl, rfl, rfl, rfl⟩

/-! ## The expiry of a wait -/

theorem currentStep_of_seqView {s t : State} (h : t.seqView = s.seqView) : t.currentStep = s.currentStep := by
  obtain ⟨-, hc, -, -, ha⟩ := seqView_eq_iff.mp h
  unfold State.currentStep State.runningPlan
  rw [hc, ha]

/-- R25: a wait that no report to the domain controller follows fails its step. -/
theorem expireWait_fails {s : State} {st : Step} (hw : s.ctx.wait.failsAlone = true) (hs : s.currentStep = some st) :
    s.expireWait = s.failing st s.ctx.index := by
  rw [expireWait_failsAlone hw, failStep_eq hs]

/-- R77: the end of a wait for a level of power-good counts a timeout and fails its step, where it faults nothing. -/
theorem expireWait_counts {s : State} {st : Step} {d : DomainId}
    (hw : s.ctx.wait = .low d ∨ s.ctx.wait = .good d ∧ (s.dom d).state ≠ .rising) (hs : s.currentStep = some st) :
    s.expireWait = (s.timeoutCounted d).failing st s.ctx.index := by
  have hfail : (s.timedOut d).failStep = (s.timedOut d).failing st s.ctx.index :=
    failStep_eq ((currentStep_of_seqView (seqView_timedOut s d)).trans hs)
  rw [timeoutCounted_eq, ← hfail]
  obtain hw | ⟨hw, hr⟩ := hw
  · exact expireWait_low hw
  · obtain ⟨-, hs, -⟩ | ⟨-, e⟩ := waitExpiry_cases s d true
    · exact absurd hs hr
    · rw [expireWait_good hw, e, List.append_nil]

/-- R29, R76: the end of a wait for ON of a RISING domain faults it; the step's failure comes before the reports. -/
theorem expireWait_faults {s : State} {st : Step} {d : DomainId} (hw : s.ctx.wait = .good d)
    (hr : (s.dom d).state = .rising) (hs : s.currentStep = some st) :
    let f := (s.timeoutCounted d).faultDomain d .timeout
    s.expireWait = ((f.1.failing st s.ctx.index).1, (f.1.failing st s.ctx.index).2 ++ f.2) := by
  have hview : ((s.timedOut d).faultDomain d .timeout).1.seqView = s.seqView :=
    (seqView_faultDomain _ d .timeout).trans (seqView_timedOut s d)
  obtain ⟨-, hctx, -⟩ := seqView_eq_iff.mp hview
  have hfail := failStep_eq ((currentStep_of_seqView hview).trans hs)
  rw [hctx] at hfail
  obtain ⟨-, -, e⟩ | ⟨hn, -⟩ := waitExpiry_cases s d true
  · dsimp only
    rw [expireWait_good hw, e, hfail, timeoutCounted_eq]
  · exact absurd ⟨rfl, hr⟩ hn

/-! ## A fault of a domain with nothing enabled below it -/

/-- R78: a domain with no enabled descendant takes no other domain with it. -/
theorem cascade_nil {s : State} {d : DomainId}
    (h : ∀ e, e ≠ d → (s.dom e).state.enabled = true → s.descends d 10 e = false) : s.cascade d = [] := by
  refine List.eq_nil_iff_forall_not_mem.mpr fun e he => ?_
  obtain ⟨hne, hen, hdesc⟩ := mem_cascade.mp he
  simp [h e hne hen] at hdesc

theorem descends_of_active {s t : State} (h : t.active = s.active) (root : DomainId) (n : Nat) (d : DomainId) :
    t.descends root n d = s.descends root n d := by
  induction n generalizing d with
  | zero => rfl
  | succ n ih => simp only [State.descends, State.cfg, h, ih]

/-- R86: counting changes the statistics alone. -/
theorem count_shape (r : DomainRuntime) (f : DomainStats → DomainStats) :
    r.count f = { r with stats := (r.count f).stats } := by
  unfold DomainRuntime.count
  split <;> rfl

/-- A record written over a changed one leaves DOMAIN_CHANGED of the change. -/
theorem setDom_changeDom (s : State) (d : DomainId) (r x : DomainRuntime) :
    (s.changeDom d r).setDom d x = (s.setDom d x).notify .domainChanged := by
  simp [State.changeDom, State.setDom, State.notify]

/-- R76: the runtime record of a domain that enters FAULT, its hold-off running. -/
def DomainRuntime.faulted (r : DomainRuntime) (c : FaultCause) (now : Tick) (len : Nat) : DomainRuntime :=
  { ({ r with state := .fault, cause := some c, overrange := false } : DomainRuntime).count
      (fun t => { t with faults := satAdd wordCeiling t.faults 1 }) with
    change := true, hold := some ⟨now, len⟩ }

/-- R76: a FAULT entry whose hold-off has a length sets off no work. -/
theorem faultEntry_held {s : State} {d : DomainId} (c : FaultCause)
    (h : holdOffLength (s.cfg d).holdMin (s.dom d).fallAvg ≠ 0) :
    s.faultEntry d c =
      ((s.setDom d ((s.dom d).faulted c s.fine (holdOffLength (s.cfg d).holdMin (s.dom d).fallAvg))).notify
        .domainChanged, []) := by
  unfold State.faultEntry
  dsimp only
  generalize hr : DomainRuntime.count _ _ = r
  have hfall : r.fallAvg = (s.dom d).fallAvg := by rw [← hr, count_shape]
  have hlen : holdOffLength ((s.changeDom d r).cfg d).holdMin ((s.changeDom d r).dom d).fallAvg
      = holdOffLength (s.cfg d).holdMin (s.dom d).fallAvg := by
    rw [State.changeDom_dom_self, ← hfall]
    rfl
  obtain ⟨h0, -⟩ | ⟨-, e⟩ := startHold_cases (s.changeDom d r) d
  · exact absurd (hlen ▸ h0) h
  · rw [e, hlen, State.changeDom_dom_self, setDom_changeDom, ← hr]
    rfl

/-- R76, R79: a fault that takes no other domain with it hands back its own report. -/
theorem faultDomain_alone {s : State} {d : DomainId} (c : FaultCause) (hnone : s.cascade d = [])
    (hlen : holdOffLength (s.cfg d).holdMin (s.dom d).fallAvg ≠ 0) :
    s.faultDomain d c =
      ((s.setDom d ((s.dom d).faulted c s.fine (holdOffLength (s.cfg d).holdMin (s.dom d).fallAvg))).notify
        .domainChanged, [s.faultReportOf d]) := by
  rw [faultDomain_eq, hnone, faultEntry_held c hlen]
  rfl

/-- R76, R77: the state after a timeout of a RISING domain has been counted and has faulted it alone. -/
def State.timeoutFaulted (s : State) (d : DomainId) : State :=
  ((s.timedOut d).setDom d
    (((s.timedOut d).dom d).faulted .timeout s.fine (holdOffLength (s.cfg d).holdMin (s.dom d).fallAvg))).notify
    .domainChanged

theorem timedOut_dom_self (s : State) (d : DomainId) :
    (s.timedOut d).dom d = { s.dom d with stats := ((s.timedOut d).dom d).stats } := by
  rw [State.timedOut, State.dom_setDom_self, count_shape]

theorem timedOut_dom_of_ne (s : State) {d e : DomainId} (h : e ≠ d) : (s.timedOut d).dom e = s.dom e :=
  State.dom_setDom_of_ne s _ h

theorem timeout_faults_alone {s : State} {d : DomainId}
    (hdesc : ∀ e, e ≠ d → (s.dom e).state.enabled = true → s.descends d 10 e = false)
    (hlen : holdOffLength (s.cfg d).holdMin (s.dom d).fallAvg ≠ 0) :
    (s.timedOut d).faultDomain d .timeout = (s.timeoutFaulted d, [.faultReport d (s.cfg d).critical]) := by
  have hview := seqView_timedOut s d
  have hnone : (s.timedOut d).cascade d = [] := cascade_nil fun e he hen => by
    rw [timedOut_dom_of_ne s he] at hen
    rw [descends_of_active rfl]
    exact hdesc e he hen
  have hsame : holdOffLength ((s.timedOut d).cfg d).holdMin ((s.timedOut d).dom d).fallAvg
      = holdOffLength (s.cfg d).holdMin (s.dom d).fallAvg := by
    rw [timedOut_dom_self, cfg_of_seqView hview]
  rw [faultDomain_alone .timeout hnone (hsame ▸ hlen), hsame]
  rfl

/-- R76, R93, R101: a timeout that faults a domain alone keeps its ramp record, and every other domain. -/
theorem timeoutFaulted_dom (s : State) (d : DomainId) :
    (∃ x, (s.timeoutFaulted d).dom d =
        { s.dom d with
          state := .fault, cause := some .timeout, change := true, overrange := false, stats := x
          hold := some ⟨s.fine, holdOffLength (s.cfg d).holdMin (s.dom d).fallAvg⟩ })
      ∧ ∀ e, e ≠ d → (s.timeoutFaulted d).dom e = s.dom e := by
  refine ⟨?_, fun e he => ?_⟩
  · rw [State.timeoutFaulted, State.dom_notify, State.dom_setDom_self, DomainRuntime.faulted, count_shape,
      timedOut_dom_self]
    exact ⟨_, rfl⟩
  · rw [State.timeoutFaulted, State.dom_notify, State.dom_setDom_of_ne _ _ he, timedOut_dom_of_ne s he]

/-- R79: the report of a fault of a domain that is not critical finds a DELAY step undisturbed. -/
theorem takeFault_delay {s : State} (d : DomainId) (h : s.ctx.wait = .delay) :
    micro (.faultReport d false) s = (s, []) := by
  simp [micro, State.takeFault, State.pinnedWaitTest, h]

/-- The runs of a failure under CONTINUE before a DELAY step, and of a report that follows it. -/
theorem comesTo_continued_report {s : State} {st t : Step} (ha : st.action = .cont) {i : Nat} {d : DomainId}
    (hd : s.delaysAt (i + 1) t) (h : s.HeadsEmpty) :
    comesTo ((s.failing st i).1, (s.failing st i).2 ++ [.faultReport d false]) (s.continued.delaying (i + 1) t) := by
  rw [failing_continued ha]
  have hstart := quiesce_one (w := .start (i + 1)) (startStep_delays (continued_delaysAt hd))
  exact ⟨2, by decide, quiesce_append hstart (quiesce_one (takeFault_delay d rfl)), continued_headsEmpty h⟩

end Sys2Proof.Machine

open Sys2Proof Sys2Proof.Machine in
/-- Settles O22: by the kind of the wait, whose end is one equation each. -/
theorem budgetExpiryEndsTheWait : Obligations.BudgetExpiryEndsTheWait := by
  intro st t s h
  rw [exec_budgetExpiry]
  refine ⟨fun hw ho => ?delay, fun hw ho hs => ?failing, fun d hw ho hs => ?counting, fun d hw hr ho hs => ?rising,
    fun ho => ?running, fun hw => ?other⟩
  case delay =>
    rw [expireIf_over (by rw [hw]; rfl) ho, expireWait_delay hw]
    exact ⟨fun hd => event_comesTo (proceeding_delays rfl hd h), fun u hu => event_comesTo hu⟩
  case failing =>
    have hw : s.ctx.wait.failsAlone = true ∧ s.ctx.wait.ofStep = true := by
      obtain ⟨d, e⟩ | ⟨p, n, l, e⟩ | ⟨p, e⟩ | ⟨p, a, n, l, e⟩ := hw <;> exact e ▸ ⟨rfl, rfl⟩
    rw [expireIf_over hw.2 ho, expireWait_fails hw.1 hs]
    refine ⟨fun u hu => event_comesTo hu, fun ha hd => ⟨_, event_comesTo (failing_delays ha hd h), ?_⟩⟩
    obtain ⟨c, hmark, hindex, hwait, e⟩ := continued_delaying_eq s (s.ctx.index + 1) t
    rw [e]
    exact ⟨hmark, hindex, hwait, rfl, rfl, rfl, rfl, rfl, fun _ _ => rfl⟩
  case counting =>
    have hk : s.ctx.wait.ofStep = true := by
      obtain e | ⟨e, -⟩ := hw <;> exact e ▸ rfl
    rw [expireIf_over hk ho, expireWait_counts hw hs]
    refine ⟨fun u hu => event_comesTo hu, fun ha hd => ?_⟩
    rw [timeoutCounted_eq]
    refine ⟨_, event_comesTo (failing_delays (s := s.timedOut d) ha hd h), ?_⟩
    obtain ⟨c, hmark, hindex, hwait, e⟩ := continued_delaying_eq (s.timedOut d) (s.ctx.index + 1) t
    rw [e]
    exact ⟨hmark, hindex, hwait, State.dom_setDom_self s d _, fun e he => State.dom_setDom_of_ne s _ he⟩
  case rising =>
    rw [expireIf_over (by rw [hw]; rfl) ho, expireWait_faults hw hr hs]
    refine ⟨fun u hu => event_comesTo hu, fun hcrit hdesc hlen ha hd => ?_⟩
    rw [timeoutCounted_eq, timeout_faults_alone hdesc hlen, hcrit]
    refine ⟨_, event_comesTo (comesTo_continued_report (s := s.timeoutFaulted d) ha hd h), ?_⟩
    obtain ⟨c, hmark, hindex, hwait, e⟩ := continued_delaying_eq (s.timeoutFaulted d) (s.ctx.index + 1) t
    obtain ⟨⟨x, hself⟩, hothers⟩ := timeoutFaulted_dom s d
    have hdom (e' : DomainId) : ((s.timeoutFaulted d).continued.delaying (s.ctx.index + 1) t).dom e'
        = (s.timeoutFaulted d).dom e' := by
      rw [e]
      rfl
    rw [hdom, hself, e]
    exact ⟨hmark, hindex, hwait, rfl, rfl, rfl, rfl, rfl, rfl, rfl, hothers⟩
  case running =>
    rw [expireIf_running ho]
    exact event_comesTo (comesTo_nil h)
  case other =>
    have hk : s.ctx.wait.ofStep = false := by
      obtain e | e := hw <;> exact e ▸ rfl
    rw [expireIf_other hk]
    exact event_comesTo (comesTo_nil h)
end

section
/-! # The limit of a PARK step -/

namespace Sys2Proof.Machine

open Sys2Proof

/-- R46: what an abort writes: the cause, ENTRY_ABORTED, and the rollback's portion. -/
theorem abort_eq {s : State} (c : AbortCause) (h : s.platform ≠ .returning) :
    (s.abort c).1 =
      { s with
        platform := .returning, lastAbort := some c, indicator := (s.abort c).1.indicator
        ctx := { s.ctx with wait := .idle, portion := .rollback }
        notices := (s.notices.raise .entryAborted).raise .stateChanged } := by
  simp [State.abort, State.enterPlatform, State.setWait, State.notify, h.symm]

/-- R12, R49: what the completion of a rollback writes: RUN, a released context, and whether the request is stale. -/
theorem completeRollback_eq {s : State} (h : s.platform ≠ .run) :
    ∃ x, s.completeRollback.1 =
      { s with
        platform := .run, ctx := releasedContext, requestStale := s.requested != .run, indicator := x
        notices := s.notices.raise .stateChanged } :=
  ⟨_, by simp [State.completeRollback, State.enterRest, State.enterPlatform, State.notify, h.symm]; rfl⟩

/-- R49: with no record left the rollback completes. -/
theorem nextRecord_empty {s : State} (h : s.undo = []) : s.nextRecord = s.completePlan := by
  unfold State.nextRecord
  rw [h]

/-- R173: without a mark there is nothing to apply. -/
theorem applyPendingItems_none {s : State} (h : ∀ k : ItemId, s.applyPending.get k = false) :
    s.applyPendingItems = s := by
  have hsel : (List.finRange 8).any s.applyPending.get = false := by simp [h]
  simp [State.applyPendingItems, State.applySelected, hsel]

theorem completePlan_rollback {s : State} (hp : s.ctx.portion = .rollback)
    (hnone : ∀ k : ItemId, s.applyPending.get k = false) : s.completePlan = s.completeRollback := by
  unfold State.completePlan
  rw [hp]
  simp only [applyPendingItems_none hnone]

/-- R46, R49: an abort with nothing to undo and nothing to apply completes its rollback in RUN. -/
theorem abort_completes {s : State} (c : AbortCause) (h : s.HeadsEmpty) (hu : s.undo = [])
    (hnone : ∀ k : ItemId, s.applyPending.get k = false) : comesTo (s.abort c) (s.abort c).1.completeRollback.1 := by
  have happly (k : ItemId) : (s.abort c).1.applyPending.get k = false := by
    rw [State.abort, State.enterPlatform_applyPending]
    exact hnone k
  have hportion : (s.abort c).1.ctx.portion = .rollback := by
    rw [State.abort, State.enterPlatform_ctx]
  have hundo : (s.abort c).1.undo = [] := by
    rw [State.abort, State.enterPlatform_undo]
    exact hu
  have hrun : micro .rollback (s.abort c).1 = ((s.abort c).1.completeRollback.1, []) :=
    (nextRecord_empty hundo).trans (completePlan_rollback hportion happly)
  refine ⟨1, by decide, quiesce_one hrun, headsEmpty_of_ports h ?_ ?_⟩ <;>
    simp [State.completeRollback, State.enterRest, State.abort, State.notify, State.setWait]

/-- R55: a trip starts the trip plan, and stops where its first step is a DELAY. -/
theorem tripCause_delays {s : State} {t : Step} (c : TripCause) (h : s.HeadsEmpty) (hp : s.platform ≠ .tripping)
    (hp' : s.platform ≠ .tripped) (hs : (s.active.plans.get 6).step? 0 = some t) (hk : t.kind = .delay)
    (hl : t.unit ≠ .learned) (hb : t.budget ≠ 0) :
    comesTo (s, [.tripCause c]) ((s.startTrip c).1.delaying 0 t) := by
  have htrip : micro (.tripCause c) s = ((s.startTrip c).1, [.start 0]) := by
    obtain ⟨e, -⟩ | ⟨e, -⟩ | ⟨-, -, e⟩ := takeTrip_cases s c
    · exact absurd e hp
    · exact absurd e hp'
    · exact e
  have hdelay : (s.startTrip c).1.delaysAt 0 t := by
    refine ⟨?_, hk, hl, hb⟩
    simpa [State.runningPlan, State.startTrip, State.setUpPlan] using hs
  refine ⟨2, by decide, quiesce_step htrip (quiesce_one (w := .start 0) (startStep_delays hdelay)), ?_⟩
  refine headsEmpty_of_ports h ?_ ?_ <;>
    simp [State.delaying, State.setWait, State.beginStep, State.startTrip, State.setUpPlan]

end Sys2Proof.Machine

open Sys2Proof Sys2Proof.Machine in
/-- Settles O23: the limit fails the PARK step, by each of the three failure actions. -/
theorem parkLimitFailsThePark : Obligations.ParkLimitFailsThePark := by
  intro st t s h
  rw [exec_parkLimit]
  have expired (hw : s.ctx.wait = .release) (ho : s.BudgetOver) (hs : s.currentStep = some st) :
      s.expireIf (· == .release) = s.failing st s.ctx.index := by
    rw [expireIf_over (by simp [hw]) ho, expireWait_fails (by rw [hw]; rfl) hs]
  refine ⟨fun hw ho hs u hu => ?limit, fun hw ho hp hs ha hd => ?cont, fun hw ho hp hs ha hk hu hnone => ?abort,
    fun hw ho hp hs ha hk hslot hfirst ht hdelay hl hb => ?trip, fun ho => ?running, fun hw => ?other⟩
  case limit =>
    rw [expired hw ho hs]
    exact event_comesTo hu
  case cont =>
    rw [expired hw ho hs]
    refine ⟨_, event_comesTo (failing_delays ha hd h), ?_⟩
    obtain ⟨c, hmark, hindex, hwait, e⟩ := continued_delaying_eq s (s.ctx.index + 1) t
    rw [e, leavePark_parked hp]
    exact ⟨rfl, hmark, hindex, hwait, rfl, rfl, rfl, rfl⟩
  case abort =>
    rw [expired hw ho hs, failing_abort ha, if_pos hk]
    refine ⟨_, event_comesTo (abort_completes .parkLimit (s := s.setWait .idle) h hu hnone), ?_⟩
    have habort := abort_eq .parkLimit (s := s.setWait .idle) (by simp [State.setWait, hp])
    obtain ⟨x, hrest⟩ := completeRollback_eq (s := ((s.setWait .idle).abort .parkLimit).1) (by simp [abort_platform])
    rw [hrest, habort]
    exact ⟨rfl, rfl, rfl, rfl, rfl, rfl, rfl, rfl, rfl, rfl, rfl, rfl, rfl⟩
  case trip =>
    rw [expired hw ho hs, failing_trip ha, stepTripCause_eq, if_neg (by simp [hk]), if_pos hslot]
    refine ⟨_, event_comesTo (tripCause_delays (s := s.setWait .idle) _ h (by simp [State.setWait, hp])
      (by simp [State.setWait, hp]) ht hdelay hl hb), ?_⟩
    simp [State.delaying, State.beginStep, State.setWait, State.startTrip, State.setUpPlan, TripRecord.add, hfirst]
  case running =>
    rw [expireIf_running ho]
    exact event_comesTo (comesTo_nil h)
  case other =>
    rw [expireIf_other (by simpa using hw)]
    exact event_comesTo (comesTo_nil h)
end

section
/-! # A falling edge of a power-good input -/

namespace Sys2Proof.Machine

open Sys2Proof

theorem exec_pgFall (d : DomainId) (s : State) : exec (.pgFall d) s = s.event (s.pgFall d) := rfl

/-- An event whose one piece of work gives what comes to a state. -/
theorem event_of_work {s t u : State} {w : Work} {a : Act} (h : micro w t = a) (hu : comesTo a u) :
    s.event (t, [w]) = .next (s.ends u) := by
  obtain ⟨n, hn, hq, hh⟩ := hu
  exact finish_work (quiesce_step h hq) hh s.before (by omega)

/-! ## A fall that ends -/

/-- R73, R94, R98: the record of a domain whose fall ends now in OFF, with this hold-off. -/
def DomainRuntime.landed (r : DomainRuntime) (c : DomainConfig) (now : Tick) (hold : Option HoldOff) : DomainRuntime :=
  { r.captureFall c now with state := .off, change := true, hold := hold }

/-- R72, R73, R101: the state after a FALLING domain has reached OFF. -/
def State.landed (s : State) (d : DomainId) : State :=
  let r : DomainRuntime := { s.dom d with pg := false }
  let len := holdOffLength (s.cfg d).holdMin (r.captureFall (s.cfg d) s.fine).fallAvg
  State.setDom
    ((s.notifyIf (fallClass r (s.cfg d) s.fine ≠ .ok) .rampOutOfWindow).notify .domainChanged) d
    (r.landed (s.cfg d) s.fine (if len = 0 then none else some ⟨s.fine, len⟩))

/-- R94, R97, R98, R86: what the capture of a fall writes. -/
theorem captureFall_eq (r : DomainRuntime) (c : DomainConfig) (now : Tick) :
    r.captureFall c now =
      { r with
        overrange := false, lastFall := some ⟨r.rampValue now, fallClass r c now⟩
        fallAvg := learn r.fallAvg (fallClass r c now) (r.rampValue now)
        stats := if r.counting then r.stats.countFall (fallClass r c now) else r.stats } := by
  unfold DomainRuntime.captureFall DomainRuntime.count
  dsimp only
  split <;> rfl

/-- R73, R74: a fall that ends reports OFF; a hold-off of length 0 expires after the report (log 13). -/
theorem pgFall_lands {s : State} {d : DomainId} (hpg : (s.dom d).pg = true) (hp : (s.cfg d).present = true)
    (hs : (s.dom d).state = .falling) :
    s.pgFall d =
      (s.landed d, .offReport d ::
        if holdOffLength (s.cfg d).holdMin
            (({ s.dom d with pg := false } : DomainRuntime).captureFall (s.cfg d) s.fine).fallAvg = 0
        then [.holdOver d] else []) := by
  have hfall : s.pgFall d =
      (s.notifyIf (fallClass { s.dom d with pg := false } (s.cfg d) s.fine ≠ .ok) .rampOutOfWindow).enterOff d
        (({ s.dom d with pg := false } : DomainRuntime).captureFall (s.cfg d) s.fine) := by
    unfold State.pgFall
    simp [hpg, hp, hs]
  rw [hfall]
  unfold State.landed DomainRuntime.landed
  dsimp only
  generalize (({ s.dom d with pg := false } : DomainRuntime).captureFall (s.cfg d) s.fine) = r
  generalize hv : s.notifyIf _ _ = v
  have hcfg : v.cfg d = s.cfg d := by rw [← hv, cfg_notifyIf]
  have hfine : v.fine = s.fine := by rw [← hv, State.notifyIf_fine]
  have hlen : holdOffLength ((v.changeDom d { r with state := .off }).cfg d).holdMin
      ((v.changeDom d { r with state := .off }).dom d).fallAvg = holdOffLength (s.cfg d).holdMin r.fallAvg := by
    rw [State.changeDom_dom_self, ← hcfg]
    rfl
  obtain ⟨h0, e⟩ | ⟨h0, e⟩ := enterOff_cases v d r
  · dsimp only at h0 e
    rw [hlen] at h0
    rw [e, if_pos h0, if_pos h0, State.changeDom_dom_self, setDom_changeDom]
    rfl
  · dsimp only at h0 e
    rw [hlen] at h0 e
    rw [e, if_neg h0.ne', if_neg h0.ne', State.changeDom_dom_self, setDom_changeDom, State.changeDom_fine, hfine]
    rfl

theorem landed_headsEmpty {s : State} (h : s.HeadsEmpty) (d : DomainId) : (s.landed d).HeadsEmpty :=
  headsEmpty_of_ports h (State.notifyIf_up ..) (State.notifyIf_dn ..)

theorem landed_ctx (s : State) (d : DomainId) : (s.landed d).ctx = s.ctx := State.notifyIf_ctx ..

/-! ## A domain that is OFF or in FAULT -/

/-- R82: when a pinned domain is due. -/
theorem pinnedDue_iff (s : State) (d : DomainId) :
    s.pinnedDue d = true ↔
      (s.cfg d).present = true ∧ (s.cfg d).pinned = true ∧ ((s.dom d).state = .off ∨ (s.dom d).state = .fault)
        ∧ (s.dom d).hold = none ∧ (s.dom d).pg = false
        ∧ ∀ p, (s.cfg d).parent = some p → (s.dom p).state = .on := by
  simp [State.pinnedDue, parentReady_iff, and_assoc]

theorem setDom_setDom (s : State) (d : DomainId) (r x : DomainRuntime) : (s.setDom d r).setDom d x = s.setDom d x := by
  simp [State.setDom]

/-- A write of the power-good level alone changes no domain's state. -/
theorem setDom_pg_state (s : State) (d : DomainId) (b : Bool) (e : DomainId) :
    ((s.setDom d { s.dom d with pg := b }).dom e).state = (s.dom e).state := by
  rw [dom_setDom]
  split
  · rename_i h
    rw [h]
  · rfl

/-- R82: an OFF or FAULT domain whose power-good falls is then due exactly where it is pinned, its hold-off idle and
its parent ready. -/
theorem pinnedDue_setDom_pg {s : State} {d : DomainId} (hs : (s.dom d).state = .off ∨ (s.dom d).state = .fault) :
    (s.setDom d { s.dom d with pg := false }).pinnedDue d = true ↔
      (s.cfg d).present = true ∧ (s.cfg d).pinned = true ∧ (s.dom d).hold = none
        ∧ ∀ p, (s.cfg d).parent = some p → (s.dom p).state = .on := by
  rw [pinnedDue_iff]
  simp only [State.cfg_setDom, State.dom_setDom_self, setDom_pg_state, hs, true_and]

theorem pgFall_rests {s : State} {d : DomainId} (hpg : (s.dom d).pg = true)
    (hs : (s.dom d).state = .off ∨ (s.dom d).state = .fault) :
    s.pgFall d =
      (if (s.cfg d).present then (s.setDom d { s.dom d with pg := false }).tryPinned d
        else s.setDom d { s.dom d with pg := false }, []) := by
  unfold State.pgFall
  cases hp : (s.cfg d).present
  · simp [hpg]
  · obtain hs | hs := hs <;> simp [hpg, hs]

end Sys2Proof.Machine

open Sys2Proof Sys2Proof.Machine in
/-- Settles O31: the state that the fall ends in is `State.landed`, and its report ends the wait. -/
theorem powerGoodFallsToOff : Obligations.PowerGoodFallsToOff := by
  intro d s h r value cls avg len fallen
  rw [exec_pgFall]
  have hfallen : s.landed d = fallen := by
    unfold State.landed DomainRuntime.landed
    dsimp only
    rw [captureFall_eq]
    have hnote : s.notifyIf (cls ≠ .ok) .rampOutOfWindow = if cls = .ok then s else s.notify .rampOutOfWindow := by
      by_cases hc : cls = .ok <;> simp [State.notifyIf, hc]
    exact congrArg (fun v : State => State.setDom (v.notify .domainChanged) d _) hnote
  have hlen : holdOffLength (s.cfg d).holdMin
      (({ s.dom d with pg := false } : DomainRuntime).captureFall (s.cfg d) s.fine).fallAvg = len := by
    rw [captureFall_eq]
    rfl
  refine ⟨fun hpg => ?low, fun hpg hp hs h0 => ?falls, fun hpg hp hs h0 u hu => ?expires, fun hpg hs => ?rests⟩
  case low =>
    have he : s.pgFall d = (s, []) := by simp [State.pgFall, show (s.dom d).pg = false from hpg]
    rw [he]
    exact event_comesTo (comesTo_nil h)
  case falls =>
    rw [pgFall_lands hpg hp hs, hlen, if_neg h0, hfallen]
    have hh : fallen.HeadsEmpty := hfallen ▸ landed_headsEmpty h d
    have hc : fallen.ctx = s.ctx := hfallen ▸ landed_ctx s d
    refine ⟨fun hl hr => ?_, fun u hl hu => ?_, fun u hl hu => ?_⟩
    · exact event_of_work (a := (fallen, [])) (by simp [micro, State.takeOff, hc, hl, hr]) (comesTo_nil hh)
    · exact event_of_work (by simp [micro, State.takeOff, hc, hl, completeStep_eq]) hu
    · exact event_of_work (by simp [micro, State.takeOff, hc, hl, recordDone_eq]) hu
  case expires =>
    rw [pgFall_lands hpg hp hs, hlen, if_pos h0, hfallen]
    exact event_comesTo hu
  case rests =>
    have hdue := pinnedDue_setDom_pg hs
    have hrests := pgFall_rests hpg hs
    rw [hrests]
    refine ⟨fun hd => ?_, fun hd => ?_⟩
    · rw [if_pos hd.1, State.tryPinned, if_pos (hdue.mpr hd), State.changeDom, setDom_setDom, State.dom_setDom_self]
      exact event_comesTo (comesTo_nil h)
    · have hstay : (s.setDom d { s.dom d with pg := false }).tryPinned d = s.setDom d { s.dom d with pg := false } :=
        if_neg (mt hdue.mp hd)
      rw [hstay, ite_self]
      exact event_comesTo (comesTo_nil h)
end

section
/-! # How the steps that act on a domain start -/

namespace Sys2Proof.Machine

open Sys2Proof

/-! ## The context of a step -/

theorem startStep_of_step {s : State} {i : Nat} {t : Step} (h : (s.runningPlan.bind fun p => p.step? i) = some t) :
    micro (.start i) s = (s.beginStep t i).stepAction t := by
  obtain ⟨p, hp, hi⟩ := Option.bind_eq_some_iff.mp h
  show s.startStep i = _
  unfold State.startStep
  rw [hp]
  simp only [hi]

/-- The step that has begun is the current one. -/
theorem currentStep_beginStep {s : State} {i : Nat} {t : Step} (h : (s.runningPlan.bind fun p => p.step? i) = some t) :
    (s.beginStep t i).currentStep = some t := by
  obtain ⟨p, hp, hi⟩ := Option.bind_eq_some_iff.mp h
  have hp' : (s.beginStep t i).runningPlan = some p := hp
  unfold State.currentStep
  rw [hp']
  exact hi

/-- R24, R25: the context of a step with this budget. -/
def State.begun (s : State) (t : Step) (i n : Nat) : State :=
  { s with ctx := { s.ctx with
      index := i, clock := if t.unit = .milli then .milli else .fine,
      startTick := if t.unit = .milli then s.milli else s.fine, budget := some n, wait := .idle } }

/-- R24, R25, R100: a domain step runs under its stored budget, or under the learned one of its kind. -/
theorem beginStep_domain {s : State} {t : Step} {d : DomainId} (i : Nat) (hp : t.place = .domain d)
    (hk : t.kind ≠ .park) :
    s.beginStep t i =
      s.begun t i (match t.unit with
        | .fine | .milli => t.budget
        | .learned =>
          if t.kind = .awaitLow then learnedBudget (s.dom d).fallAvg (s.cfg d).fallMin (s.cfg d).fallMax
          else learnedBudget (s.dom d).riseAvg (s.cfg d).riseMin (s.cfg d).riseMax) := by
  unfold State.beginStep State.budgetFor State.begun
  cases hu : t.unit with
  | fine => simp [StepUnit.clock, State.now, hk]
  | milli => simp [StepUnit.clock, State.now, hk]
  | learned => simp [StepUnit.clock, State.now, hp, State.fallBudget, State.riseBudget]

/-! ## Waits that a step begins -/

/-- R25: under a budget other than 0 a step waits; under a budget of 0 its wait expires at once. -/
theorem waitFor_budget {s : State} {n : Nat} (h : s.ctx.budget = some n) (w : Wait) :
    (n ≠ 0 → s.waitFor w = (s.setWait w, [])) ∧ (n = 0 → s.waitFor w = (s.setWait w).expireWait) := by
  unfold State.waitFor
  rw [h]
  refine ⟨fun hn => if_neg (by simpa using hn), fun hn => if_pos (by simp [hn])⟩

/-! ## Timeouts that expire at once -/

theorem startHold_setWait (s : State) (w : Wait) (d : DomainId) :
    (s.setWait w).startHold d = ((s.startHold d).1.setWait w, (s.startHold d).2) := by
  unfold State.startHold
  dsimp only
  by_cases h : holdOffLength (s.cfg d).holdMin (s.dom d).fallAvg = 0
  · rw [if_pos h]
    exact if_pos h
  · rw [if_neg h]
    exact if_neg h

theorem faultEntry_setWait (s : State) (w : Wait) (d : DomainId) (c : FaultCause) :
    (s.setWait w).faultEntry d c = ((s.faultEntry d c).1.setWait w, (s.faultEntry d c).2) := by
  unfold State.faultEntry
  exact startHold_setWait (s.changeDom d _) w d

theorem faultAll_setWait (s : State) (w : Wait) (c : FaultCause) (ds : List DomainId) :
    (s.setWait w).faultAll c ds = ((s.faultAll c ds).1.setWait w, (s.faultAll c ds).2) := by
  induction ds generalizing s with
  | nil => rfl
  | cons d ds ih => rw [faultAll_cons, faultAll_cons, faultEntry_setWait, ih]

theorem cascade_setWait (s : State) (w : Wait) (d : DomainId) : (s.setWait w).cascade d = s.cascade d :=
  List.filter_congr fun e _ => by
    rw [descends_of_active (s := s) (t := s.setWait w) rfl]
    rfl

/-- The cascade of a fault does not look at what the sequencer waits for. -/
theorem faultDomain_setWait (s : State) (w : Wait) (d : DomainId) (c : FaultCause) :
    (s.setWait w).faultDomain d c = ((s.faultDomain d c).1.setWait w, (s.faultDomain d c).2) := by
  rw [faultDomain_eq, faultDomain_eq, cascade_setWait, faultEntry_setWait, faultAll_setWait]
  rfl

/-! ## The four kinds -/

section Starts

variable {b : State} {t : Step} {d : DomainId} {n : Nat}

theorem waits_or_fails (hn : b.ctx.budget = some n) (hcur : b.currentStep = some t) {w : Wait}
    (hw : w.failsAlone = true) :
    (n ≠ 0 → b.waitFor w = (b.setWait w, [])) ∧ (n = 0 → b.waitFor w = b.failing t b.ctx.index) := by
  obtain ⟨hwait, hexpire⟩ := waitFor_budget hn w
  refine ⟨hwait, fun h0 => (hexpire h0).trans ?_⟩
  exact expireWait_fails (s := b.setWait w) hw hcur

theorem low_expires_at_once (hn : b.ctx.budget = some 0) (hcur : b.currentStep = some t) :
    b.waitFor (.low d) = (b.timeoutCounted d).failing t b.ctx.index := by
  rw [(waitFor_budget hn _).2 rfl, expireWait_counts (s := b.setWait (.low d)) (.inl rfl) hcur, timeoutCounted_eq,
    timeoutCounted_eq]
  rfl

theorem good_expires_at_once (hn : b.ctx.budget = some 0) (hcur : b.currentStep = some t)
    (hs : (b.dom d).state ≠ .rising) : b.waitFor (.good d) = (b.timeoutCounted d).failing t b.ctx.index := by
  rw [(waitFor_budget hn _).2 rfl, expireWait_counts (s := b.setWait (.good d)) (.inr ⟨rfl, hs⟩) hcur,
    timeoutCounted_eq, timeoutCounted_eq]
  rfl

theorem good_faults_at_once (hn : b.ctx.budget = some 0) (hcur : b.currentStep = some t)
    (hs : (b.dom d).state = .rising) :
    let f := (b.timeoutCounted d).faultDomain d .timeout
    b.waitFor (.good d) = ((f.1.failing t b.ctx.index).1, (f.1.failing t b.ctx.index).2 ++ f.2) := by
  dsimp only
  have hf := faultDomain_setWait (b.timedOut d) (.good d) d .timeout
  have hb : ((b.timedOut d).setWait (.good d)) = (b.setWait (.good d)).timedOut d := rfl
  rw [(waitFor_budget hn _).2 rfl, expireWait_faults (s := b.setWait (.good d)) rfl hs hcur, timeoutCounted_eq,
    timeoutCounted_eq, ← hb, hf]
  rfl

/-- R43: a change of this domain leaves an undo record. -/
def State.Unrecorded (s : State) (d : DomainId) : Prop :=
  s.ctx.portion = .check ∧ UndoRecord.domain d true ∉ s.undo ∧ UndoRecord.domain d false ∉ s.undo

/-- R43: what the record of a domain's change does to a state with the sequencer's side of `b`. -/
theorem pushUndo_domain {e : State} (hv : e.seqView = b.seqView) (was : Bool) :
    (b.Unrecorded d → e.pushUndo (.domain d was) = { e with undo := .domain d was :: b.undo })
      ∧ (¬ b.Unrecorded d → e.pushUndo (.domain d was) = e) := by
  obtain ⟨-, hctx, hundo, -, -⟩ := seqView_eq_iff.mp hv
  refine ⟨fun ⟨hp, ht, hf⟩ => ?_, fun hr => pushUndo_kept ?_⟩
  · rw [← hundo]
    refine pushUndo_fresh (by rw [hctx, hp]) fun u hu hs => ?_
    rw [hundo] at hu
    obtain rfl | rfl := (sameSubject_domain ..).mp hs
    · exact ht hu
    · exact hf hu
  · rw [hctx, hundo]
    by_contra hc
    simp only [not_or, not_exists, not_and] at hc
    exact hr ⟨not_not.mp hc.1, fun hm => hc.2 _ hm ((sameSubject_domain ..).mpr (.inl rfl)),
      fun hm => hc.2 _ hm ((sameSubject_domain ..).mpr (.inr rfl))⟩

/-- R27: how an ENABLE step answers each judgement of the controller. -/
theorem enableStep_refused (h : b.judgeEnable d = .dependency ∨ b.judgeEnable d = .stillPowered) :
    b.enableStep d = b.failStep := by
  unfold State.enableStep
  obtain h | h := h <;> rw [h]

theorem enableStep_deferred (h : b.judgeEnable d = .deferred) : b.enableStep d = b.waitFor (.enable d) := by
  unfold State.enableStep
  rw [h]

theorem enableStep_already (h : b.judgeEnable d = .accepted) (hs : (b.dom d).state.enabled = true) :
    b.enableStep d = b.proceeding := by
  unfold State.enableStep
  rw [h]
  simp [enableAccepted_eq, State.enableEffect, hs, completeStep_eq]

/-- R27, R43: an ENABLE step that changes its domain, with the undo record of the change. -/
theorem enableStep_changes (h : b.judgeEnable d = .accepted) (hs : (b.dom d).state.enabled = false) :
    b.enableStep d =
      ((((b.enableEffect d .accepted).1.pushUndo (.domain d false)).proceeding).1,
        (b.enableEffect d .accepted).2 ++ [.start (b.ctx.index + 1)]) := by
  have hctx : ((b.enableEffect d .accepted).1.pushUndo (.domain d false)).ctx = b.ctx := by
    rw [pushUndo_ctx, enableEffect_ctx]
  unfold State.enableStep
  rw [h]
  simp only [enableAccepted_eq, if_pos hs, completeStep_eq]
  simp only [State.proceeding, hctx]

theorem disableStep_refused (h : b.disableRefused d = true) : b.disableStep d = b.failStep := by
  simp [State.disableStep, h]

/-- R28, R43: a DISABLE step, with the undo record of the change where it changes its domain. -/
theorem disableStep_accepted (h : b.disableRefused d = false) :
    b.disableStep d =
      ((State.proceeding
          (if (b.cfg d).pinned = false ∧ (b.dom d).state.enabled = true then
            (b.disableEffect d).1.pushUndo (.domain d true)
          else (b.disableEffect d).1)).1,
        (b.disableEffect d).2 ++ [.start (b.ctx.index + 1)]) := by
  have hctx : (b.disableEffect d).1.ctx = b.ctx := disableEffect_ctx b d
  rw [disableStep_eq b d h]
  dsimp only
  split <;> simp [completeStep_eq, State.proceeding, hctx]

end Starts

end Sys2Proof.Machine

open Sys2Proof Sys2Proof.Machine in
/-- Settles O18: the step that starts is the current one, under its budget; each kind then answers for itself. -/
theorem domainStepsStart : Obligations.DomainStepsStart := by
  refine ⟨?_, fun s => ⟨leavePark_parked, leavePark_other⟩⟩
  intro d i t s hstep hplace n b unrecorded
  have hbegin (hk : t.kind ≠ .park) : s.beginStep t i = b := beginStep_domain i hplace hk
  have hmicro (hk : t.kind ≠ .park) : micro (.start i) s = b.stepAction t := by
    rw [startStep_of_step hstep, hbegin hk]
  have hcur (hk : t.kind ≠ .park) : b.currentStep = some t := hbegin hk ▸ currentStep_beginStep hstep
  have hn : b.ctx.budget = some n := rfl
  refine ⟨fun hk => ?enable, fun hk => ?disable, fun hk => ?awaitGood, fun hk => ?awaitLow⟩
  case enable =>
    have hact : b.stepAction t = b.enableStep d := by simp only [State.stepAction, hk, hplace]
    have hpark : t.kind ≠ .park := by simp [hk]
    have hpush := pushUndo_domain (d := d) (seqView_enableEffect b d .accepted) false
    rw [hmicro hpark, hact]
    refine ⟨fun hj hs => enableStep_already (b := b) hj hs, fun hj hs hr => ?_, fun hj hs hr => ?_, fun hj => ?_,
      fun hj => ?_⟩
    · rw [enableStep_changes (b := b) hj hs, hpush.1 hr]
    · rw [enableStep_changes (b := b) hj hs, hpush.2 hr]
    · rw [enableStep_refused (b := b) hj, failStep_eq (hcur hpark)]
    · rw [enableStep_deferred (b := b) hj]
      exact waits_or_fails hn (hcur hpark) rfl
  case disable =>
    have hact : b.stepAction t = b.disableStep d := by simp only [State.stepAction, hk, hplace]
    have hpark : t.kind ≠ .park := by simp [hk]
    have hpush := pushUndo_domain (d := d) (seqView_disableEffect b d) true
    rw [hmicro hpark, hact]
    refine ⟨fun hr => ?_, fun hr hpin hs hu => ?_, fun hr hkept => ?_⟩
    · rw [disableStep_refused (b := b) hr, failStep_eq (hcur hpark)]
    · rw [disableStep_accepted (b := b) hr, if_pos ⟨hpin, hs⟩, hpush.1 hu]
    · rw [disableStep_accepted (b := b) hr]
      split
      · rename_i hc
        have hu : ¬ b.Unrecorded d := by
          obtain hp | hs | hu := hkept
          · exact absurd (hp.symm.trans hc.1) (by simp)
          · exact absurd (hs.symm.trans hc.2) (by simp)
          · exact hu
        rw [hpush.2 hu]
      · rfl
  case awaitGood =>
    have hact : b.stepAction t = if (s.dom d).state = .on then b.proceeding else b.waitFor (.good d) := by
      simp only [State.stepAction, hk, hplace, State.isOn, beq_iff_eq]
      rfl
    have hpark : t.kind ≠ .park := by simp [hk]
    rw [hmicro hpark, hact]
    refine ⟨fun hs => if_pos hs, fun hs h0 => ?_, fun hs hr h0 => ?_, fun hs h0 => ?_⟩
    · rw [if_neg hs, (waitFor_budget hn _).1 h0]
    · rw [if_neg hs]
      exact good_expires_at_once (hn.trans (by rw [h0])) (hcur hpark) hr
    · rw [if_neg (by simp [hs])]
      exact good_faults_at_once (hn.trans (by rw [h0])) (hcur hpark) hs
  case awaitLow =>
    have hact : b.stepAction t = if (s.dom d).state = .off then b.proceeding else b.waitFor (.low d) := by
      simp only [State.stepAction, hk, hplace]
      rfl
    have hpark : t.kind ≠ .park := by simp [hk]
    rw [hmicro hpark, hact]
    refine ⟨fun hs => if_pos hs, fun hs h0 => ?_, fun hs h0 => ?_⟩
    · rw [if_neg hs, (waitFor_budget hn _).1 h0]
    · rw [if_neg hs]
      exact low_expires_at_once (hn.trans (by rw [h0])) (hcur hpark)
end

section
/-! # The final sweep, domain by domain -/

namespace Sys2Proof.Machine

open Sys2Proof

/-! ## The frame of the sweep -/

/-- The start of a hold-off writes the runtime records alone. -/
theorem startHold_shape (s : State) (d : DomainId) :
    (s.startHold d).1 = { s with domains := (s.startHold d).1.domains } := by
  obtain ⟨-, e⟩ | ⟨-, e⟩ := startHold_cases s d <;> rw [e] <;> rfl

theorem clearFault_shape (s : State) (d : DomainId) :
    (s.clearFault d).1 =
      { s with domains := (s.clearFault d).1.domains, notices := (s.clearFault d).1.notices } := by
  unfold State.clearFault
  split <;> rfl

/-- R59: the sweep touches the runtime records and the notices alone. -/
theorem sweepDomain_shape (s : State) (d : DomainId) :
    (s.sweepDomain d).1 =
      { s with domains := (s.sweepDomain d).1.domains, notices := (s.sweepDomain d).1.notices } := by
  obtain ⟨-, e⟩ | ⟨-, -, e⟩ | ⟨-, -, -, e⟩ | ⟨-, -, -, e⟩ := sweepDomain_cases s d <;> rw [e]
  · exact clearFault_shape s d
  · rfl
  · rw [enterOff_eq, startHold_shape]
    rfl

theorem sweepAll_shape (s : State) (ds : List DomainId) :
    (s.sweepAll ds).1 =
      { s with domains := (s.sweepAll ds).1.domains, notices := (s.sweepAll ds).1.notices } := by
  induction ds generalizing s with
  | nil => rfl
  | cons d ds ih =>
    have hd := sweepDomain_shape s d
    have hds := ih (s.sweepDomain d).1
    rw [hd] at hds
    rw [sweepAll_cons, hd]
    exact hds

/-! ## What the sweep leaves of each record -/

/-- R59, R69, R73, R95: the record that the sweep leaves of a domain. -/
def DomainRuntime.swept (r : DomainRuntime) (c : DomainConfig) (now : Tick) : DomainRuntime :=
  let len := holdOffLength c.holdMin r.fallAvg
  if c.present = true ∧ c.pinned = false then
    if r.state = .fault then
      if r.pg then { r.fall now with hold := none, change := true } else { r with state := .off, change := true }
    else if r.state.enabled then
      if r.pg then { r.fall now with change := true }
      else { r with
        state := .off, overrange := false, change := true, hold := if len = 0 then none else some ⟨now, len⟩ }
    else r
  else r

theorem ne_fault_of_enabled {x : DomainState} (h : x.enabled = true) : x ≠ .fault := by
  rintro rfl
  simp [DomainState.enabled] at h

theorem clearFault_dom_self (s : State) (d : DomainId) :
    (s.clearFault d).1.dom d =
      if (s.dom d).pg then { (s.dom d).fall s.fine with hold := none, change := true }
      else { s.dom d with state := .off, change := true } := by
  unfold State.clearFault
  split <;> exact State.changeDom_dom_self ..

/-- R73, R101: the record of a domain that enters OFF from the record `r`, with the hold-off that it starts. -/
theorem enterOff_dom_self (s : State) (d : DomainId) (r : DomainRuntime) :
    (s.enterOff d r).1.dom d =
      { r with
        state := .off, change := true
        hold :=
          if holdOffLength (s.cfg d).holdMin r.fallAvg = 0 then none
          else some ⟨s.fine, holdOffLength (s.cfg d).holdMin r.fallAvg⟩ } := by
  have hcfg : (s.changeDom d { r with state := .off }).cfg d = s.cfg d := rfl
  have hcases := enterOff_cases s d r
  simp only [State.changeDom_dom_self, State.changeDom_fine, hcfg] at hcases
  obtain ⟨h0, e⟩ | ⟨h0, e⟩ := hcases
  · rw [e, State.dom_setDom_self, if_pos h0]
  · rw [e, State.dom_setDom_self, if_neg h0.ne']

theorem sweepDomain_dom_self (s : State) (d : DomainId) :
    (s.sweepDomain d).1.dom d = (s.dom d).swept (s.cfg d) s.fine := by
  have hw := sweeps_iff s d
  obtain ⟨hn, e⟩ | ⟨hy, hs, e⟩ | ⟨hy, hs, hpg, e⟩ | ⟨hy, hs, hpg, e⟩ := sweepDomain_cases s d
  · have hstays : ¬ ((s.cfg d).present = true ∧ (s.cfg d).pinned = false
        ∧ ((s.dom d).state.enabled = true ∨ (s.dom d).state = .fault)) := by
      rw [← hw, hn]
      exact Bool.false_ne_true
    rw [e, DomainRuntime.swept]
    split
    · rename_i hc
      rw [if_neg fun hf => hstays ⟨hc.1, hc.2, .inr hf⟩, if_neg fun hen => hstays ⟨hc.1, hc.2, .inl hen⟩]
    · rfl
  all_goals
    obtain ⟨hpres, hpin, -⟩ := hw.mp hy
    rw [e, DomainRuntime.swept, if_pos ⟨hpres, hpin⟩]
  · rw [clearFault_dom_self, if_pos hs]
  all_goals
    rw [if_neg (ne_fault_of_enabled hs), if_pos hs]
  · rw [if_pos hpg]
    exact State.changeDom_dom_self ..
  · rw [if_neg (by simp [hpg])]
    exact enterOff_dom_self s d { s.dom d with overrange := false }

/-- R59: the sweep of a list does to each domain of it what the domain's own records say; no domain looks at another. -/
theorem sweepAll_dom (s : State) {ds : List DomainId} (hnd : ds.Nodup) (d : DomainId) :
    (s.sweepAll ds).1.dom d = if d ∈ ds then (s.dom d).swept (s.cfg d) s.fine else s.dom d := by
  induction ds generalizing s with
  | nil => rfl
  | cons e ds ih =>
    obtain ⟨hfresh, hnd⟩ := List.nodup_cons.mp hnd
    have hfine : (s.sweepDomain e).1.fine = s.fine := by rw [sweepDomain_shape]
    rw [sweepAll_cons]
    dsimp only
    rw [ih _ hnd, cfg_of_seqView (seqView_sweepDomain s e), hfine]
    by_cases hde : d = e
    · subst hde
      rw [if_neg hfresh, if_pos List.mem_cons_self, sweepDomain_dom_self]
    · simp only [sweepDomain_dom_of_ne s hde, List.mem_cons, hde, false_or]

theorem finalSweep_dom (s : State) (d : DomainId) :
    s.finalSweep.1.dom d = (s.dom d).swept (s.cfg d) s.fine := by
  rw [State.finalSweep, sweepAll_dom s (by decide) d, if_pos (mem_allDomains d)]

end Sys2Proof.Machine

open Sys2Proof Sys2Proof.Machine in
/-- Settles O37: the record that the sweep leaves is `DomainRuntime.swept`, read off by the state and power-good. -/
theorem finalSweepDropsEnables : Obligations.FinalSweepDropsEnables := by
  intro d s
  have hframe := sweepAll_shape s allDomains
  rw [finalSweep_dom, DomainRuntime.swept]
  refine ⟨fun hp hpin hs hpg => ?enabledHigh, fun hp hpin hs hpg => ?enabledLow, fun hp hpin hs hpg => ?faultLow,
    fun hp hpin hs hpg => ?faultHigh, fun hstay => ?left, ?platform, ?queues⟩
  case enabledHigh => rw [if_pos ⟨hp, hpin⟩, if_neg (ne_fault_of_enabled hs), if_pos hs, if_pos hpg]; rfl
  case enabledLow => rw [if_pos ⟨hp, hpin⟩, if_neg (ne_fault_of_enabled hs), if_pos hs, if_neg (by simp [hpg])]
  case faultLow => rw [if_pos ⟨hp, hpin⟩, if_pos hs, if_neg (by simp [hpg])]
  case faultHigh => rw [if_pos ⟨hp, hpin⟩, if_pos hs, if_pos hpg]; rfl
  case left => obtain h | h | h | h := hstay <;> simp [h, DomainState.enabled]
  case platform => rw [State.finalSweep, hframe]
  case queues => rw [State.finalSweep, hframe]
end

section
/-! # Trips: the trip-cause record, the trip plan's start, and the rollback that fails -/

namespace Sys2Proof.Machine

open Sys2Proof

/-! ## The trip-cause record and the trip target -/

/-- R56: the first cause is kept. -/
theorem tripRecord_add_first {r : TripRecord} (h : r.first = none) (c : TripCause) :
    r.add c = { first := some c, secondary := r.secondary } := by
  unfold TripRecord.add
  rw [h]

/-- R56: a later cause is counted, to 255. -/
theorem tripRecord_add_later {r : TripRecord} {f : TripCause} (h : r.first = some f) (c : TripCause) :
    r.add c = { first := some f, secondary := min (r.secondary + 1) 255 } := by
  unfold TripRecord.add
  rw [h]
  rfl

/-- R54: OVERRIDE alone has the target SOFT_OFF. -/
theorem tripCause_target_eq (c : TripCause) : c.target = if c = .override then .softOff else .tripped := by
  cases c <;> rfl

/-- R57: OVERRIDE leaves the target in force. -/
theorem retarget_eq (t : Option TripTarget) (c : TripCause) :
    retarget t c = if c = .override then t else t.map fun _ => .tripped := by
  unfold retarget
  rw [tripCause_target_eq]
  by_cases h : c = .override <;> simp [h]

/-! ## The start of the trip plan -/

/-- R55: what the start of the trip plan writes. -/
theorem startTrip_eq {s : State} (c : TripCause) (h : s.platform ≠ .tripping) :
    s.startTrip c =
      ({ s with
          undo := [], pendingWake := none, pendingRequest := false, requestStale := false, trip := s.trip.add c
          ctx := { releasedContext with
            slot := some 6, portion := .trip, retries := freshRetries (s.active.plans.get 6)
            tripTarget := some c.target }
          platform := .tripping, indicator := (s.startTrip c).1.indicator
          notices := (s.notices.raise .stateChanged).raise .tripped }, [.start 0]) := by
  simp [State.startTrip, State.setUpPlan, State.enterPlatform, State.notify, h.symm]

/-! ## A rollback wait that runs out -/

theorem exec_rollbackWaitExpiry (s : State) :
    exec .rollbackWaitExpiry s = s.event (s.expireIf Wait.ofRecord) := rfl

/-- R52, R53: a signal record without a place fails the rollback. -/
theorem expireWait_rollbackSpace {s : State} {p : Port} {sig : Byte} {l : Level}
    (h : s.ctx.wait = .rollbackSpace p sig l) : s.expireWait = s.recordFails := by
  unfold State.expireWait
  rw [h]
  rfl

/-- R50, R51, R77: a domain record that is not reached counts a timeout and fails the rollback, where it faults
nothing. -/
theorem expireWait_recordCounts {s : State} {d : DomainId}
    (h : s.ctx.wait = .rollbackLow d ∨ s.ctx.wait = .rollbackGood d ∧ (s.dom d).state ≠ .rising) :
    s.expireWait = (s.timeoutCounted d).recordFails := by
  rw [timeoutCounted_eq]
  unfold State.expireWait
  obtain hw | ⟨hw, hs⟩ := h <;> rw [hw]
  · obtain ⟨hn, -, -⟩ | ⟨-, e⟩ := waitExpiry_cases s d false
    · simp at hn
    · simp only [e, List.append_nil]
      rfl
  · obtain ⟨-, hr, -⟩ | ⟨-, e⟩ := waitExpiry_cases s d true
    · exact absurd hr hs
    · simp only [e, List.append_nil]
      rfl

/-- R50, R76, R77: a RISING domain of a record that waits for ON faults; the trip cause comes before the reports. -/
theorem expireWait_recordFaults {s : State} {d : DomainId} (h : s.ctx.wait = .rollbackGood d)
    (hr : (s.dom d).state = .rising) :
    let f := (s.timeoutCounted d).faultDomain d .timeout
    s.expireWait = (f.1.recordFails.1, f.1.recordFails.2 ++ f.2) := by
  rw [timeoutCounted_eq]
  unfold State.expireWait
  rw [h]
  obtain ⟨-, -, e⟩ | ⟨hn, -⟩ := waitExpiry_cases s d true
  · simp only [e]
    rfl
  · exact absurd ⟨rfl, hr⟩ hn

end Sys2Proof.Machine

open Sys2Proof Sys2Proof.Machine in
/-- Settles O26: by the platform state, with the record written once for all three cases. -/
theorem tripCauseByPlatformState : Obligations.TripCauseByPlatformState := by
  intro c s record
  have hrecord : s.trip.add c = record := by
    unfold record
    cases h : s.trip.first with
    | none => exact tripRecord_add_first h c
    | some f => exact tripRecord_add_later h c
  obtain ⟨hp, e⟩ | ⟨hp, e⟩ | ⟨hp, hp', e⟩ := takeTrip_cases s c
  · rw [e, hrecord, retarget_eq]
    exact ⟨fun h => absurd hp h, fun h => by simp [hp] at h, fun _ => rfl⟩
  · rw [e, hrecord]
    exact ⟨fun _ h => absurd hp h, fun _ => rfl, fun h => by simp [hp] at h⟩
  · rw [e, startTrip_eq c hp, hrecord, tripCause_target_eq]
    exact ⟨fun _ _ => by and_intros <;> rfl, fun h => absurd h hp', fun h => absurd h hp⟩

open Sys2Proof Sys2Proof.Machine in
/-- Settles O25: the end of each record's wait is one equation, and the trip that follows a signal record's stops in
the DELAY of step 0. -/
theorem rollbackExpiryTrips : Obligations.RollbackExpiryTrips := by
  intro p sig l d t s h
  rw [exec_rollbackWaitExpiry]
  refine ⟨fun hw ho hp ht hk hl hb => ?delays, fun u hw ho hu => ?signal, fun u hw ho hu => ?counts,
    fun u hw hr ho => ?faults, fun ho => ?running, fun hw => ?idle⟩
  case delays =>
    have hp1 : s.recordFails.1.platform ≠ .tripping := by simp [State.recordFails, hp]
    have hp2 : s.recordFails.1.platform ≠ .tripped := by simp [State.recordFails, hp]
    rw [expireIf_over (by rw [hw]; rfl) ho, expireWait_rollbackSpace hw]
    refine ⟨_, event_comesTo (tripCause_delays (s := s.recordFails.1) .rollbackFailed h hp1 hp2 ht hk hl hb), ?_⟩
    rw [startTrip_eq _ hp1]
    refine ⟨rfl, rfl, rfl, rfl, rfl, rfl, rfl, rfl, rfl, rfl, rfl, ?_, rfl, rfl, rfl, rfl, rfl⟩
    show s.trip.add .rollbackFailed = _
    cases hf : s.trip.first with
    | none => exact tripRecord_add_first hf _
    | some f =>
      rw [tripRecord_add_later hf]
      exact congrArg (TripRecord.mk · _) hf.symm
  case signal =>
    rw [expireIf_over (by rw [hw]; rfl) ho, expireWait_rollbackSpace hw]
    exact event_comesTo hu
  case counts =>
    have hk : s.ctx.wait.ofRecord = true := by
      obtain e | ⟨e, -⟩ := hw <;> exact e ▸ rfl
    rw [expireIf_over hk ho, expireWait_recordCounts hw]
    exact event_comesTo hu
  case faults =>
    intro faulted hu
    rw [expireIf_over (by rw [hw]; rfl) ho, expireWait_recordFaults hw hr]
    exact event_comesTo hu
  case running =>
    rw [expireIf_running ho]
    exact event_comesTo (comesTo_nil h)
  case idle =>
    rw [expireIf_other (by rw [hw]; rfl)]
    exact event_comesTo (comesTo_nil h)
end

section
/-! # A fault and its cascade, and a critical loss of power-good -/

namespace Sys2Proof.Machine

open Sys2Proof

/-! ## What a FAULT entry leaves of its record -/

/-- R76, R86, R93: the record `new` is `old` after a FAULT entry on this cause; only the count of faults and the
hold-off are left open. -/
def DomainRuntime.FaultedFrom (old : DomainRuntime) (c : FaultCause) (new : DomainRuntime) : Prop :=
  ∃ stats hold, new =
    { old with
      state := .fault, cause := some c, overrange := false, change := true, stats := stats, hold := hold }

/-- R74: the start of a hold-off writes the hold-off alone. -/
theorem startHold_dom_self (s : State) (d : DomainId) :
    ∃ hold, (s.startHold d).1.dom d = { s.dom d with hold := hold } := by
  obtain ⟨-, e⟩ | ⟨-, e⟩ := startHold_cases s d <;> rw [e, State.dom_setDom_self] <;> exact ⟨_, rfl⟩

theorem faultEntry_dom_self (s : State) (d : DomainId) (c : FaultCause) :
    (s.dom d).FaultedFrom c ((s.faultEntry d c).1.dom d) := by
  unfold State.faultEntry
  dsimp only
  rw [count_shape]
  obtain ⟨hold, e⟩ := startHold_dom_self (s.changeDom d _) d
  rw [e, State.changeDom_dom_self]
  exact ⟨_, hold, rfl⟩

theorem faultAll_dom_of_mem (s : State) (c : FaultCause) {ds : List DomainId} (hnd : ds.Nodup) {e : DomainId}
    (h : e ∈ ds) : (s.dom e).FaultedFrom c ((s.faultAll c ds).1.dom e) := by
  induction ds generalizing s with
  | nil => exact absurd h List.not_mem_nil
  | cons d ds ih =>
    obtain ⟨hfresh, hnd⟩ := List.nodup_cons.mp hnd
    rw [faultAll_cons]
    obtain rfl | hm := List.mem_cons.mp h
    · rw [faultAll_dom_of_not_mem _ c hfresh]
      exact faultEntry_dom_self s e c
    · have hed : e ≠ d := by
        rintro rfl
        exact hfresh hm
      rw [← faultEntry_dom_of_ne s c hed]
      exact ih _ hnd hm

/-! ## What a FAULT entry sets off -/

/-- R74: the start of a hold-off sets off at most its own expiry. -/
theorem startHold_work {s : State} {d : DomainId} {w : Work} (h : w ∈ (s.startHold d).2) : ∃ e, w = .holdOver e := by
  obtain ⟨-, e⟩ | ⟨-, e⟩ := startHold_cases s d <;> rw [e] at h
  · exact ⟨d, List.mem_singleton.mp h⟩
  · exact absurd h List.not_mem_nil

theorem faultAll_work {s : State} {c : FaultCause} {ds : List DomainId} {w : Work} (h : w ∈ (s.faultAll c ds).2) :
    ∃ e, w = .holdOver e := by
  induction ds generalizing s with
  | nil => exact absurd h List.not_mem_nil
  | cons d ds ih =>
    rw [faultAll_cons] at h
    obtain h | h := List.mem_append.mp h
    · exact startHold_work h
    · exact ih h

/-! ## The cascade -/

theorem allDomains_eq_finRange : allDomains = List.finRange 10 := by decide

theorem cascade_eq_filter (s : State) (d : DomainId) :
    s.cascade d = (List.finRange 10).filter fun e => e != d && (s.dom e).state.enabled && s.descends d 10 e := by
  rw [State.cascade, allDomains_eq_finRange]
  rfl

theorem cascade_nodup (s : State) (d : DomainId) : (s.cascade d).Nodup := by
  rw [cascade_eq_filter]
  exact (List.nodup_finRange 10).filter _

/-- R76: the root takes its own cause. -/
theorem faultDomain_dom_root (s : State) (d : DomainId) (c : FaultCause) :
    (s.dom d).FaultedFrom c ((s.faultDomain d c).1.dom d) := by
  have hroot : d ∉ s.cascade d := fun h => (mem_cascade.mp h).1 rfl
  rw [faultDomain_eq, faultAll_dom_of_not_mem _ _ hroot]
  exact faultEntry_dom_self s d c

/-- R78: an enabled descendant takes PARENT_LOST. -/
theorem faultDomain_dom_of_mem {s : State} {d e : DomainId} (c : FaultCause) (h : e ∈ s.cascade d) :
    (s.dom e).FaultedFrom .parentLost ((s.faultDomain d c).1.dom e) := by
  rw [faultDomain_eq, ← faultEntry_dom_of_ne s c (mem_cascade.mp h).1]
  exact faultAll_dom_of_mem _ _ (cascade_nodup s d) h

/-- R79: the reports of the root and of its victims come first, then the expiries of hold-offs of length 0 (log 13). -/
theorem faultDomain_work (s : State) (d : DomainId) (c : FaultCause) :
    ∃ tail, (s.faultDomain d c).2 = (d :: s.cascade d).map s.faultReportOf ++ tail
      ∧ ∀ w ∈ tail, ∃ e, w = .holdOver e := by
  rw [faultDomain_eq, List.append_assoc]
  refine ⟨_, rfl, fun w hw => ?_⟩
  obtain h | h := List.mem_append.mp hw
  · exact startHold_work h
  · exact faultAll_work h

theorem faultDomain_dom_of_not_mem {s : State} {d e : DomainId} (c : FaultCause) (hne : e ≠ d) (h : e ∉ s.cascade d) :
    (s.faultDomain d c).1.dom e = s.dom e := by
  rw [faultDomain_eq, faultAll_dom_of_not_mem _ _ h, faultEntry_dom_of_ne s c hne]

/-- R64: a descendant is a present child of the root, or of a descendant. -/
theorem descends_succ_iff (s : State) (root d : DomainId) (n : Nat) :
    s.descends root (n + 1) d = true ↔
      (s.cfg d).present = true ∧ ∃ p, (s.cfg d).parent = some p ∧ (p = root ∨ s.descends root n p = true) := by
  rw [State.descends]
  cases (s.cfg d).parent <;> simp

end Sys2Proof.Machine

open Sys2Proof Sys2Proof.Machine in
/-- Settles O36: each record of the cascade is one FAULT entry's, and the hold-offs alone set off work after the
reports. -/
theorem faultCascades : Obligations.FaultCascades := by
  refine ⟨fun d c s => ?_, fun d e n s => ⟨rfl, descends_succ_iff s d e n⟩⟩
  obtain ⟨_, _, hroot⟩ := faultDomain_dom_root s d c
  obtain ⟨tail, hwork, htail⟩ := faultDomain_work s d c
  refine ⟨by rw [hroot], by rw [hroot], by rw [hroot], by rw [hroot], fun e hne hen hd => ?victim,
    fun e hne hkept => ?other, rfl, tail, ?reports, htail⟩
  case victim =>
    have hmem : e ∈ s.cascade d := mem_cascade.mpr ⟨hne, hen, hd⟩
    have hreport : s.faultReportOf e ∈ (s.faultDomain d c).2 := by
      rw [hwork]
      exact List.mem_append_left _ (List.mem_map_of_mem (List.mem_cons_of_mem d hmem))
    obtain ⟨_, _, hfault⟩ := faultDomain_dom_of_mem c hmem
    rw [hfault]
    exact ⟨rfl, rfl, rfl, rfl, hreport⟩
  case other =>
    refine faultDomain_dom_of_not_mem c hne fun hmem => ?_
    obtain ⟨-, hen, hd⟩ := mem_cascade.mp hmem
    obtain h | h := hkept
    · simp [hen] at h
    · simp [hd] at h
  case reports =>
    rw [hwork, cascade_eq_filter]
    rfl

namespace Sys2Proof.Machine

open Sys2Proof

/-! ## A critical loss -/

/-- R72, R76: the loss of power-good of an ON domain with no enabled descendant faults it alone. -/
theorem pgFall_faults_alone {s : State} {d : DomainId} (hpg : (s.dom d).pg = true) (hp : (s.cfg d).present = true)
    (hs : (s.dom d).state = .on)
    (hdesc : ∀ e, e ≠ d → (s.dom e).state.enabled = true → s.descends d 10 e = false)
    (hlen : holdOffLength (s.cfg d).holdMin (s.dom d).fallAvg ≠ 0) :
    s.pgFall d =
      ((s.setDom d (({ s.dom d with pg := false } : DomainRuntime).faulted .pgLost s.fine
          (holdOffLength (s.cfg d).holdMin (s.dom d).fallAvg))).notify .domainChanged,
        [.faultReport d (s.cfg d).critical]) := by
  have hfall : s.pgFall d = (s.setDom d { s.dom d with pg := false }).faultDomain d .pgLost := by
    unfold State.pgFall
    simp [hpg, hp, hs]
  have hnone : (s.setDom d { s.dom d with pg := false }).cascade d = [] := cascade_nil fun e he hen => by
    rw [State.dom_setDom_of_ne s _ he] at hen
    exact (descends_of_active (s := s) rfl d 10 e).trans (hdesc e he hen)
  have hdom := State.dom_setDom_self s d { s.dom d with pg := false }
  rw [hfall, faultDomain_alone .pgLost hnone (by rwa [hdom]), hdom, setDom_setDom]
  rfl

/-- R86: the faulted record with its count of faults spelled out. -/
theorem faulted_eq (r : DomainRuntime) (c : FaultCause) (now : Tick) (len : Nat) :
    r.faulted c now len =
      { r with
        state := .fault, cause := some c, overrange := false, change := true, hold := some ⟨now, len⟩
        stats := if r.counting then { r.stats with faults := min (r.stats.faults + 1) 65535 } else r.stats } := by
  unfold DomainRuntime.faulted DomainRuntime.count
  dsimp only
  split <;> rfl

/-- R79: the report of a fault of a domain that is not critical touches nothing where no exit plan waits. -/
theorem takeFault_harmless {s : State} (d : DomainId) (h : s.ctx.wait ≠ .pinned) :
    micro (.faultReport d false) s = (s, []) := by
  simp [micro, State.takeFault, State.pinnedWaitTest, h]

/-- R79: the report of a critical fault is a trip cause. -/
theorem takeFault_critical (s : State) (d : DomainId) :
    micro (.faultReport d true) s = s.takeTrip (.criticalFault d) := rfl

/-- R56: the trip-cause record after one more cause. -/
theorem tripRecord_add_spec (r : TripRecord) (c : TripCause) :
    (r.first = none → (r.add c).first = some c ∧ (r.add c).secondary = r.secondary)
      ∧ ∀ f, r.first = some f → (r.add c).first = some f ∧ (r.add c).secondary = min (r.secondary + 1) 255 := by
  refine ⟨fun h => ?_, fun f h => ?_⟩
  · rw [tripRecord_add_first h]
    exact ⟨rfl, rfl⟩
  · rw [tripRecord_add_later h]
    exact ⟨rfl, rfl⟩

/-- R55: a trip cause stops, as a piece of work, where step 0 of the trip plan is a DELAY. -/
theorem takeTrip_delays {s : State} {t : Step} (c : TripCause) (h : s.HeadsEmpty) (hp : s.platform ≠ .tripping)
    (hp' : s.platform ≠ .tripped) (hs : (s.active.plans.get 6).step? 0 = some t) (hk : t.kind = .delay)
    (hl : t.unit ≠ .learned) (hb : t.budget ≠ 0) : comesTo (s.takeTrip c) ((s.startTrip c).1.delaying 0 t) := by
  obtain ⟨e, -⟩ | ⟨e, -⟩ | ⟨-, -, e⟩ := takeTrip_cases s c
  · exact absurd e hp
  · exact absurd e hp'
  · rw [e, startTrip_eq c hp]
    refine comesTo_delaying ⟨?_, hk, hl, hb⟩ h
    exact hs

end Sys2Proof.Machine

open Sys2Proof Sys2Proof.Machine in
/-- Settles O32: the one report of the fault is harmless or a trip cause, as the domain's record has it. -/
theorem powerGoodLostFaultsDomain : Obligations.PowerGoodLostFaultsDomain := by
  intro d t s h hpg hp hs hdesc hlen faulted
  have hfall : s.pgFall d = (faulted, [.faultReport d (s.cfg d).critical]) := by
    rw [pgFall_faults_alone hpg hp hs hdesc hlen, faulted_eq]
  have hh : faulted.HeadsEmpty := h
  rw [exec_pgFall, hfall]
  refine ⟨fun hc hw => ?harmless, fun u hc hu => ?trips, fun hc hp hp' ht hk hl hb => ?delays⟩
  case harmless =>
    rw [hc]
    exact event_of_work (takeFault_harmless (s := faulted) d hw) (comesTo_nil hh)
  case trips =>
    rw [hc]
    exact event_of_work (takeFault_critical faulted d) hu
  case delays =>
    rw [hc]
    refine ⟨_, event_of_work (takeFault_critical faulted d)
      (takeTrip_delays (s := faulted) _ hh hp hp' ht hk hl hb), ?_⟩
    obtain ⟨hfirst, hlater⟩ := tripRecord_add_spec s.trip (.criticalFault d)
    have hself : faulted.dom d = _ := State.dom_setDom_self s d _
    rw [startTrip_eq (s := faulted) _ hp]
    refine ⟨rfl, rfl, rfl, rfl, rfl, hfirst, hlater, congrArg DomainRuntime.state hself,
      congrArg DomainRuntime.cause hself, fun e he => State.dom_setDom_of_ne s _ he, rfl, rfl, rfl, rfl, rfl, rfl, rfl,
      rfl⟩
end

section
/-! # The requests to the domain controller, and the rule of parents -/

namespace Sys2Proof.Machine

open Sys2Proof

/-! ## Changes of the runtime records -/

/-- R189, R190: a flag that stands is raised to no effect. -/
theorem raise_raise (u : NoticeUnit) (n : Notice) : (u.raise n).raise n = u.raise n := by
  have hbit : (u.flags ||| n.mask).getLsbD n.bit = true := by
    cases n <;> simp [Notice.bit, Notice.mask]
  simp [NoticeUnit.raise, hbit, BitVec.or_assoc]

/-- R85: from `s` to `t` the runtime records become `r`, DOMAIN_CHANGED is raised exactly where a domain has moved, and
nothing else is touched. -/
structure State.Rewrites (s t : State) (r : DomainId → DomainRuntime) (moved : Prop) : Prop where
  frame : t = { s with domains := t.domains, notices := t.notices }
  dom : ∀ d, t.dom d = r d
  raised : moved → t.notices = s.notices.raise .domainChanged
  quiet : ¬ moved → t.notices = s.notices

namespace State.Rewrites

variable {s t u : State} {r r' : DomainId → DomainRuntime} {m m' : Prop}

theorem refl (s : State) : s.Rewrites s s.dom False := ⟨rfl, fun _ => rfl, nofun, fun _ => rfl⟩

theorem congr (h : s.Rewrites t r m) (hr : ∀ d, r d = r' d) (hm : m ↔ m') : s.Rewrites t r' m' :=
  ⟨h.frame, fun d => (h.dom d).trans (hr d), fun h' => h.raised (hm.mpr h'), fun h' => h.quiet (mt hm.mp h')⟩

/-- Two changes, one after the other: one notice stands for both. -/
theorem trans (h : s.Rewrites t r m) (k : t.Rewrites u r' m') : s.Rewrites u r' (m ∨ m') := by
  refine ⟨?_, k.dom, fun hm => ?_, fun hm => ?_⟩
  · rw [k.frame, h.frame]
  · by_cases hk : m'
    · rw [k.raised hk]
      by_cases hh : m
      · rw [h.raised hh, raise_raise]
      · rw [h.quiet hh]
    · rw [k.quiet hk, h.raised (hm.resolve_right hk)]
  · rw [k.quiet fun h' => hm (.inr h'), h.quiet fun h' => hm (.inl h')]

theorem active (h : s.Rewrites t r m) : t.active = s.active := by rw [h.frame]

/-- A change whose notice already stood. -/
theorem domains_only (h : s.Rewrites t r m) (hn : t.notices = s.notices) : t = { s with domains := t.domains } := by
  have hframe := h.frame
  rw [hn] at hframe
  exact hframe

theorem fine (h : s.Rewrites t r m) : t.fine = s.fine := by rw [h.frame]

theorem cfg (h : s.Rewrites t r m) (d : DomainId) : t.cfg d = s.cfg d := by rw [State.cfg, h.active]; rfl

/-- R85: one domain's state changes. -/
theorem changeDom (s : State) (d : DomainId) (x : DomainRuntime) :
    s.Rewrites (s.changeDom d x) (fun e => if e = d then { x with change := true } else s.dom e) True :=
  ⟨rfl, fun e => dom_setDom s d e _, fun _ => rfl, nofun⟩

/-- A record is rewritten in the state it is in. -/
theorem setDom (s : State) (d : DomainId) (x : DomainRuntime) :
    s.Rewrites (s.setDom d x) (fun e => if e = d then x else s.dom e) False :=
  ⟨rfl, fun e => dom_setDom s d e x, nofun, fun _ => rfl⟩

end State.Rewrites

/-! ## Tests of pinned domains -/

/-- R67, R82, R93: the record of a domain whose enable goes high now, in this state. -/
def DomainRuntime.enabledTo (r : DomainRuntime) (st : DomainState) (now : Tick) : DomainRuntime :=
  { r with state := st, overrange := false, stray := false, rampStart := now, change := true }

/-- R82: the test enables a domain that is due, and touches nothing else. -/
theorem tryPinned_rewrites (s : State) (d : DomainId) :
    s.Rewrites (s.tryPinned d) (fun e => if e = d ∧ s.pinnedDue d = true then (s.dom e).enabledTo .rising s.fine
      else s.dom e) (s.pinnedDue d = true) := by
  obtain ⟨hd, e⟩ | ⟨hd, e⟩ := tryPinned_cases s d <;> rw [e]
  · refine (State.Rewrites.changeDom s d _).congr (fun e => ?_) (by simp [hd])
    by_cases he : e = d
    · simp only [he, hd, and_self, if_true]
      rfl
    · simp [he]
  · exact (State.Rewrites.refl s).congr (fun e => by simp [hd]) (by simp [hd])

/-- R82: the test changes no domain to or from ON, so it leaves every other test as it is. -/
theorem pinnedDue_tryPinned (s : State) {d e : DomainId} (h : e ≠ d) : (s.tryPinned d).pinnedDue e = s.pinnedDue e := by
  have hr := tryPinned_rewrites s d
  have hon (p : DomainId) : ((s.tryPinned d).dom p).state = .on ↔ (s.dom p).state = .on := by
    rw [hr.dom]
    split
    · rename_i hp
      obtain ⟨-, -, hs, -⟩ := (pinnedDue_iff s d).mp hp.2
      rw [hp.1]
      obtain hs | hs := hs <;> simp [DomainRuntime.enabledTo, hs]
    · rfl
  rw [Bool.eq_iff_iff, pinnedDue_iff, pinnedDue_iff]
  simp only [hr.cfg, hon]
  rw [hr.dom, if_neg fun hc => h hc.1]

/-- R82: the tests of the domains of a list that are to be tested, one after another. -/
def State.testPinned (s : State) (test : DomainId → Bool) (l : List DomainId) : State :=
  l.foldl (fun t c => if test c then t.tryPinned c else t) s

/-- R82: no test of a pinned domain depends on another's. -/
theorem testPinned_rewrites (s : State) (test : DomainId → Bool) {l : List DomainId} (hnd : l.Nodup) :
    s.Rewrites (s.testPinned test l)
      (fun e => if e ∈ l ∧ test e = true ∧ s.pinnedDue e = true then (s.dom e).enabledTo .rising s.fine else s.dom e)
      (∃ e ∈ l, test e = true ∧ s.pinnedDue e = true) := by
  induction l generalizing s with
  | nil => exact (State.Rewrites.refl s).congr (fun e => by simp) (by simp)
  | cons d l ih =>
    obtain ⟨hfresh, hnd⟩ := List.nodup_cons.mp hnd
    have hne {e : DomainId} (he : e ∈ l) : e ≠ d := fun h => hfresh (h ▸ he)
    rw [State.testPinned, List.foldl_cons]
    by_cases ht : test d = true
    · have hr := tryPinned_rewrites s d
      rw [if_pos ht]
      refine (hr.trans (ih (s.tryPinned d) hnd)).congr (fun e => ?_) ?_
      · by_cases hed : e = d
        · subst hed
          simp [hfresh, ht, hr.dom]
        · simp [hed, hr.dom, hr.fine, pinnedDue_tryPinned s hed]
      · simp only [List.mem_cons, exists_eq_or_imp, ht, true_and]
        refine or_congr_right (exists_congr fun e => and_congr_right fun he => ?_)
        rw [pinnedDue_tryPinned s (hne he)]
    · rw [if_neg ht]
      refine (ih s hnd).congr (fun e => ?_) (by simp [ht])
      by_cases hed : e = d
      · subst hed
        simp [hfresh, ht]
      · simp [hed]

/-- R82: the arrival of a domain at ON tests its children. -/
theorem parentArrived_eq (s : State) (d : DomainId) : s.parentArrived d = s.testPinned (s.isChild d) allDomains := by
  have fold (l : List DomainId) (t : State) (h : t.active = s.active) :
      l.foldl (fun t c => if t.isChild d c then t.tryPinned c else t) t = t.testPinned (s.isChild d) l := by
    induction l generalizing t with
    | nil => rfl
    | cons c l ih =>
      have hc : t.isChild d c = s.isChild d c := by simp only [State.isChild, State.cfg, h]
      rw [State.testPinned, List.foldl_cons, List.foldl_cons, hc]
      refine ih _ ?_
      split
      · rw [(tryPinned_rewrites t c).active, h]
      · exact h
  exact fold allDomains s rfl

/-! ## Enable requests -/

/-- R82: when a child of a domain that has just reached ON is enabled with it. -/
def State.childDue (s : State) (d c : DomainId) : Prop :=
  (s.cfg c).present = true ∧ (s.cfg c).parent = some d ∧ (s.cfg c).pinned = true ∧ c ≠ d
    ∧ ((s.dom c).state = .off ∨ (s.dom c).state = .fault) ∧ (s.dom c).hold = none ∧ (s.dom c).pg = false

/-- R67: the state in which an OFF domain has reached ON with its power-good already high. -/
def State.reached (s : State) (d : DomainId) : State :=
  (s.setDom d ((s.dom d).enabledTo .on s.fine)).notify .domainChanged

theorem reached_dom (s : State) (d e : DomainId) :
    (s.reached d).dom e = if e = d then (s.dom d).enabledTo .on s.fine else s.dom e := dom_setDom s d e _

/-- R82: at the arrival of a domain at ON, a child is due by its own record alone, its parent being ON. -/
theorem childDue_iff (s : State) (d c : DomainId) :
    (s.reached d).isChild d c = true ∧ (s.reached d).pinnedDue c = true ↔ s.childDue d c := by
  have hcfg (e : DomainId) : (s.reached d).cfg e = s.cfg e := rfl
  rw [pinnedDue_iff, reached_dom]
  simp only [State.isChild, hcfg, Bool.and_eq_true, beq_iff_eq, State.childDue]
  by_cases hc : c = d
  · subst hc
    simp [DomainRuntime.enabledTo]
  · rw [if_neg hc]
    constructor
    · rintro ⟨⟨hpres, hpar⟩, -, hpin, hs, hhold, hpg, -⟩
      exact ⟨hpres, hpar, hpin, hc, hs, hhold, hpg⟩
    · rintro ⟨hpres, hpar, hpin, -, hs, hhold, hpg⟩
      refine ⟨⟨hpres, hpar⟩, hpres, hpin, hs, hhold, hpg, fun p hp => ?_⟩
      obtain rfl := Option.some.inj (hpar.symm.trans hp)
      rw [reached_dom, if_pos rfl]
      rfl

/-- R67: the acceptance of a request for a domain with power-good low begins its rise. -/
theorem acceptEnable_low {s : State} {d : DomainId} (h : (s.dom d).pg = false) :
    s.acceptEnable d = ((s.setDom d ((s.dom d).enabledTo .rising s.fine)).notify .domainChanged, []) := by
  unfold State.acceptEnable
  rw [h]
  rfl

/-- R67, R82: with power-good high the domain reaches ON at once, and its children are tested. -/
theorem acceptEnable_high {s : State} {d : DomainId} (h : (s.dom d).pg = true) :
    s.acceptEnable d = ((s.reached d).parentArrived d, [.onReport d]) := by
  unfold State.acceptEnable
  rw [h]
  rfl

/-- R82: what the arrival at ON leaves of each domain; the notice of the arrival stands for the children too. -/
theorem parentArrived_reached (s : State) (d : DomainId) :
    (s.reached d).parentArrived d = { s.reached d with domains := ((s.reached d).parentArrived d).domains }
      ∧ ∀ c, (s.childDue d c → ((s.reached d).parentArrived d).dom c = (s.dom c).enabledTo .rising s.fine)
          ∧ (¬ s.childDue d c → ((s.reached d).parentArrived d).dom c = (s.reached d).dom c) := by
  have hr := testPinned_rewrites (s.reached d) ((s.reached d).isChild d) (l := allDomains) (by decide)
  rw [← parentArrived_eq] at hr
  have hnotices : ((s.reached d).parentArrived d).notices = (s.reached d).notices := by
    by_cases hm : ∃ e ∈ allDomains, (s.reached d).isChild d e = true ∧ (s.reached d).pinnedDue e = true
    · rw [hr.raised hm]
      exact raise_raise s.notices .domainChanged
    · exact hr.quiet hm
  refine ⟨hr.domains_only hnotices, fun c => ⟨fun hc => ?_, fun hc => ?_⟩⟩
  · have hne : c ≠ d := by
      obtain ⟨-, -, -, hne, -⟩ := hc
      exact hne
    rw [hr.dom, if_pos ⟨mem_allDomains c, (childDue_iff s d c).mpr hc⟩, reached_dom, if_neg hne]
    rfl
  · rw [hr.dom, if_neg fun hd => hc ((childDue_iff s d c).mp hd.2)]

/-- R67: how a request for an OFF domain, or for a FAULT domain with power-good low, is judged. -/
theorem judgeEnable_resting {s : State} {d : DomainId}
    (h : (s.dom d).state = .off ∨ (s.dom d).state = .fault ∧ (s.dom d).pg = false) :
    s.judgeEnable d =
      if (s.dom d).hold.isSome then .deferred else if s.parentReady d then .accepted else .dependency := by
  unfold State.judgeEnable
  obtain hs | ⟨hs, hpg⟩ := h <;> rw [hs]
  rw [hpg]
  rfl

theorem enableEffect_resting {s : State} {d : DomainId}
    (h : (s.dom d).state = .off ∨ (s.dom d).state = .fault ∧ (s.dom d).pg = false) :
    s.enableEffect d .accepted = s.acceptEnable d := by
  unfold State.enableEffect
  obtain hs | ⟨hs, -⟩ := h <;> rw [hs] <;> rfl

/-- R66, R67: the four rows of the table of enable requests. -/
theorem enable_rows (r : DomainRuntime) :
    r.state.enabled = true ∨ r.state = .falling ∨ r.state = .fault ∧ r.pg = true
      ∨ (r.state = .off ∨ r.state = .fault ∧ r.pg = false) := by
  cases r.state <;> cases r.pg <;> simp [DomainState.enabled]

end Sys2Proof.Machine

open Sys2Proof Sys2Proof.Machine in
/-- Settles O34: by the domain's state, its power-good, its hold-off and its parent, in the order of R67. -/
theorem enableRequestTable : Obligations.EnableRequestTable := by
  intro d s
  obtain hs | hs | ⟨hs, hpg⟩ | hs := enable_rows (s.dom d)
  · have hj : s.judgeEnable d = .accepted := by
      unfold State.judgeEnable
      obtain hs | hs := (enabled_iff _).mp hs <;> rw [hs]
    exact .inl ⟨hs, hj, by rw [hj, State.enableEffect, if_pos hs]⟩
  · exact .inr (.inl ⟨hs, by simp [State.judgeEnable, hs]⟩)
  · exact .inr (.inr (.inl ⟨hs, hpg, by simp [State.judgeEnable, hs, hpg]⟩))
  · have hj := judgeEnable_resting hs
    refine .inr (.inr (.inr ⟨hs, ?_⟩))
    by_cases hhold : (s.dom d).hold = none
    · simp only [hhold, Option.isSome_none, Bool.false_eq_true, if_false] at hj
      have hready := parentReady_iff s d
      by_cases hr : s.parentReady d = true
      · rw [if_pos hr] at hj
        refine .inr (.inr ⟨hhold, hready.mp hr, hj, fun hpg => ?_, fun hpg => ?_⟩)
        · rw [enableEffect_resting hs, acceptEnable_low hpg]
          rfl
        · obtain ⟨hframe, hdom⟩ := parentArrived_reached s d
          exact ⟨_, hframe, hdom, by rw [enableEffect_resting hs, acceptEnable_high hpg]⟩
      · rw [if_neg hr] at hj
        rw [hready] at hr
        push Not at hr
        exact .inr (.inl ⟨hhold, hr, hj⟩)
    · rw [if_pos (Option.isSome_iff_ne_none.mpr hhold)] at hj
      exact .inl ⟨hhold, hj⟩

namespace Sys2Proof.Machine

open Sys2Proof

/-! ## Disable requests -/

/-- R69, R73: the state after a domain has entered OFF from an enabled state, its hold-off as given. -/
def State.dropped (s : State) (d : DomainId) (hold : Option HoldOff) : State :=
  (s.notify .domainChanged).setDom d { s.dom d with
    state := .off, overrange := false, rampStart := s.fine, change := true, hold := hold }

/-- R69, R73, R74: an enabled domain with power-good low is OFF at once; a hold-off of length 0 expires after the report
(log 13). -/
theorem dropEnable_low {s : State} {d : DomainId} (h : (s.dom d).pg = false) :
    let len := holdOffLength (s.cfg d).holdMin (s.dom d).fallAvg
    (len ≠ 0 → s.dropEnable d = (s.dropped d (some ⟨s.fine, len⟩), [.offReport d]))
      ∧ (len = 0 → s.dropEnable d = (s.dropped d none, [.offReport d, .holdOver d])) := by
  intro len
  have hdrop : s.dropEnable d = s.enterOff d ((s.dom d).fall s.fine) := by
    unfold State.dropEnable
    rw [h]
    rfl
  have hcases := enterOff_cases s d ((s.dom d).fall s.fine)
  simp only [State.changeDom_dom_self, setDom_changeDom] at hcases
  rw [hdrop]
  obtain ⟨h0, e⟩ | ⟨h0, e⟩ := hcases
  · exact ⟨fun hl => absurd h0 hl, fun _ => e⟩
  · exact ⟨fun _ => e, fun hl => absurd hl h0.ne'⟩

/-- R69, R80: what the disable of a FAULT domain does, by its power-good. -/
theorem clearFault_eq (s : State) (d : DomainId) :
    s.clearFault d =
      if (s.dom d).pg then (s.changeDom d { (s.dom d).fall s.fine with hold := none }, [])
      else (s.changeDom d { s.dom d with state := .off }, [.offReport d]) := rfl

theorem disableRefused_iff (s : State) (d : DomainId) :
    s.disableRefused d = true ↔
      (s.cfg d).pinned = false ∧ (s.dom d).state.enabled = true ∧ s.childActive d = true := by
  simp [State.disableRefused, and_assoc]

end Sys2Proof.Machine

open Sys2Proof Sys2Proof.Machine in
/-- Settles O35: a pinned domain, an active child, and then the domain's state and power-good decide. -/
theorem disableRequestTable : Obligations.DisableRequestTable := by
  intro d s
  have hrefused := disableRefused_iff s d
  have drops (hpin : (s.cfg d).pinned = false) (hs : (s.dom d).state.enabled = true) (hc : s.childActive d = false) :
      s.disableRefused d = false ∧ s.disableEffect d = s.dropEnable d := by
    have hr : s.disableRefused d = false := by
      rw [Bool.eq_false_iff, Ne, hrefused]
      simp [hc]
    obtain hs | hs := (enabled_iff _).mp hs <;> exact ⟨hr, by simp [State.disableEffect, hpin, hr, hs]⟩
  have clears (hpin : (s.cfg d).pinned = false) (hs : (s.dom d).state = .fault) :
      s.disableEffect d = s.clearFault d := by
    simp [State.disableEffect, State.disableRefused, hpin, hs, DomainState.enabled]
  refine ⟨fun hpin => ?pinned, fun hpin hs hc => ?refused, fun hpin hs hc hpg => ?falls, fun hpin hs hc hpg => ?off,
    fun hpin hs => ?rests, fun hpin hs hpg => ?faultLow, fun hpin hs hpg => ?faultHigh⟩
  case pinned => exact ⟨by simp [State.disableEffect, hpin], by simp [State.disableRefused, hpin]⟩
  case refused =>
    have hr := hrefused.mpr ⟨hpin, hs, hc⟩
    exact ⟨hr, by simp [State.disableEffect, hpin, hr]⟩
  case falls =>
    obtain ⟨hr, e⟩ := drops hpin hs hc
    refine ⟨hr, e.trans ?_⟩
    unfold State.dropEnable
    rw [hpg]
    rfl
  case off =>
    rw [(drops hpin hs hc).2]
    exact dropEnable_low hpg
  case rests => obtain hs | hs := hs <;> simp [State.disableEffect, State.disableRefused, hpin, hs, DomainState.enabled]
  case faultLow =>
    rw [clears hpin hs, clearFault_eq, hpg]
    rfl
  case faultHigh =>
    rw [clears hpin hs, clearFault_eq, hpg]
    rfl

open Sys2Proof Sys2Proof.Machine in
/-- Settles O38: each operation keeps the invariant by its own lemma; an answer other than an acceptance changes
nothing. -/
theorem domainControllerKeepsParentRule : Obligations.DomainControllerKeepsParentRule := by
  intro d c ds s h
  refine ⟨fun hpres => ?_, h.disableEffect d, fun hen => ?_, h.pgRise d, h.pgFall d, h.holdExpiry d, h.tryPinned d,
    h.overrangeExpiry d, h.finalSweep, fun hj => h.copyDomainSet hj⟩
  · obtain ⟨ha, -, -⟩ | e := enableEffect_cases s d (s.judgeEnable d)
    · rw [ha]
      exact h.enableEffect hpres ha
    · rwa [e]
  · have hne : (s.dom d).state ≠ .off := by
      rintro hoff
      simp [hoff, DomainState.enabled] at hen
    exact h.faultDomain ((h.fits d).present hne) c
end

section
/-! # How a domain set is judged -/

namespace Sys2Proof.Machine

open Sys2Proof

/-! ## The graph rules -/

/-- R167: the parents of the set's present domains are present, and this rank falls along every parent field. -/
def ParentsFall (ds : Vector DomainConfig 10) (rank : DomainId → Nat) : Prop :=
  ∀ d p, (ds.get d).present = true → (ds.get d).parent = some p → (ds.get p).present = true ∧ rank p < rank d

theorem rank_lt_of_reaches {ds : Vector DomainConfig 10} {rank : DomainId → Nat} (hr : ParentsFall ds rank)
    {target x : DomainId} {n : Nat} (hx : (ds.get x).present = true) (h : reachesDomain ds target n x = true) :
    rank target < rank x := by
  induction n generalizing x with
  | zero => simp [reachesDomain] at h
  | succ n ih =>
    rw [reachesDomain] at h
    split at h
    · contradiction
    · rename_i p hp
      obtain ⟨hpres, hlt⟩ := hr x p hx hp
      rw [Bool.or_eq_true, beq_iff_eq] at h
      obtain rfl | h := h
      · exact hlt
      · exact (ih hpres h).trans hlt

/-- R64: in a forest the number of steps up to a domain without a parent falls along every parent field. -/
theorem exists_rank {s : State} (h : graphOk s.active.domains = true) :
    ∃ rank : DomainId → Nat, ∀ d p, (s.cfg d).present = true → (s.cfg d).parent = some p → rank p < rank d := by
  have ends (d : DomainId) : ∃ n, s.ancestor n d = none := ⟨11, ancestor_eleven h d⟩
  refine ⟨fun d => Nat.find (ends d), fun d p hd hp => ?_⟩
  obtain ⟨n, hn⟩ : ∃ n, Nat.find (ends d) = n + 1 := by
    refine Nat.exists_eq_succ_of_ne_zero fun h0 => ?_
    have := Nat.find_spec (ends d)
    rw [h0] at this
    contradiction
  have hnone : s.ancestor n p = none := by
    have := Nat.find_spec (ends d)
    rwa [hn, State.ancestor, if_pos hd, hp] at this
  calc Nat.find (ends p) ≤ n := Nat.find_min' (ends p) hnone
    _ < n + 1 := Nat.lt_succ_self n
    _ = Nat.find (ends d) := hn.symm

theorem graphRule_iff (ds : Vector DomainConfig 10) (d : DomainId) :
    graphRule ds d = true ↔
      ((ds.get d).present = true → reachesDomain ds d 10 d = false ∧ ∀ p, (ds.get d).parent = some p →
          (ds.get p).present = true ∧ ((ds.get d).pinned = true → (ds.get p).pinned = true))
        ∧ ((ds.get d).present = false → (ds.get d).pinned = false ∧ (ds.get d).critical = false) := by
  unfold graphRule
  dsimp only
  cases hd : (ds.get d).present
  · simp
  · cases (ds.get d).parent with
    | none => simp
    | some p => cases (ds.get d).pinned <;> simp

theorem graphOk_iff_rules (ds : Vector DomainConfig 10) : graphOk ds = true ↔ ∀ d, graphRule ds d = true := by
  simp [graphOk, mem_allDomains]

/-- R167: a domain set keeps the graph rules exactly where a rank falls along its parent fields, the parents of pinned
domains are pinned, and absent domains are neither pinned nor critical. -/
theorem graphOk_iff (s : State) (ds : Vector DomainConfig 10) :
    graphOk ds = true ↔
      (∃ rank, ParentsFall ds rank)
        ∧ (∀ d p, (ds.get d).present = true → (ds.get d).pinned = true → (ds.get d).parent = some p →
            (ds.get p).pinned = true)
        ∧ ∀ d, (ds.get d).present = false → (ds.get d).pinned = false ∧ (ds.get d).critical = false := by
  constructor
  · intro h
    have hrule (d : DomainId) := (graphRule_iff ds d).mp ((graphOk_iff_rules ds).mp h d)
    obtain ⟨rank, hrank⟩ := exists_rank (s := { s with active := { s.active with domains := ds } }) h
    exact ⟨⟨rank, fun d p hd hp => ⟨(((hrule d).1 hd).2 p hp).1, hrank d p hd hp⟩⟩,
      fun d p hd hpin hp => (((hrule d).1 hd).2 p hp).2 hpin, fun d => (hrule d).2⟩
  · rintro ⟨⟨rank, hrank⟩, hpin, habsent⟩
    refine (graphOk_iff_rules ds).mpr fun d => (graphRule_iff ds d).mpr ⟨fun hd => ⟨?_, fun p hp => ?_⟩, habsent d⟩
    · by_contra hloop
      exact (rank_lt_of_reaches hrank hd (by simpa using hloop)).false
    · exact ⟨(hrank d p hd hp).1, fun h => hpin d p hd h hp⟩

/-! ## The references and the live domains -/

theorem namesDomain_iff (t : Step) (d : DomainId) :
    t.namesDomain = some d ↔
      t.place = .domain d ∧ (t.kind = .enable ∨ t.kind = .disable ∨ t.kind = .awaitGood ∨ t.kind = .awaitLow) := by
  refine ⟨fun h => ?_, fun ⟨hp, hk⟩ => namesDomain_eq_some hp hk⟩
  unfold Step.namesDomain at h
  split at h <;> simp_all

theorem planNames_iff (s : State) (d : DomainId) :
    s.planNames d = true ↔
      ∃ (k : SlotId) (i : Nat) (t : Step), (s.active.plans.get k).step? i = some t ∧ t.place = .domain d
        ∧ (t.kind = .enable ∨ t.kind = .disable ∨ t.kind = .awaitGood ∨ t.kind = .awaitLow) := by
  simp only [State.planNames, List.any_eq_true, List.mem_finRange, true_and, beq_iff_eq, namesDomain_iff]
  refine exists_congr fun k => ⟨?_, ?_⟩
  · rintro ⟨⟨i, t⟩, hx, hn⟩
    exact ⟨i, t, Plan.step?_of_mem_live hx, hn⟩
  · rintro ⟨i, t, ht, hn⟩
    exact ⟨(i, t), Plan.mem_live ht, hn⟩

/-- R167: a set keeps the references where it removes no domain that an active plan names. -/
theorem referencesKept_iff (s : State) (ds : Vector DomainConfig 10) :
    s.referencesKept ds = true ↔
      ¬ ∃ d, (s.cfg d).present = true ∧ (ds.get d).present = false ∧ s.planNames d = true := by
  simp only [State.referencesKept, List.all_eq_true, mem_allDomains, forall_const, Bool.not_eq_true',
    Bool.and_eq_false_iff, Bool.not_eq_false', not_exists]
  refine forall_congr' fun d => ?_
  cases (s.cfg d).present <;> cases (ds.get d).present <;> simp

theorem active_iff (x : DomainState) : x.active = true ↔ x = .rising ∨ x = .on ∨ x = .falling := by
  cases x <;> simp [DomainState.active]

/-- R167: a set strands no live domain where every enabled domain's parent is ON and every active domain is present. -/
theorem liveKept_iff (s : State) (ds : Vector DomainConfig 10) :
    s.liveKept ds = true ↔
      ¬ ∃ d, (s.dom d).state.enabled = true ∧ (∃ p, (ds.get d).parent = some p ∧ (s.dom p).state ≠ .on)
        ∨ (s.dom d).state.active = true ∧ (ds.get d).present = false := by
  simp only [State.liveKept, List.all_eq_true, mem_allDomains, forall_const, not_exists]
  refine forall_congr' fun d => ?_
  have hparent : (∃ p, (ds.get d).parent = some p ∧ (s.dom p).state ≠ .on) ↔
      ¬ ∀ p, (ds.get d).parent = some p → (s.dom p).state = .on := by
    push Not
    rfl
  rw [hparent]
  cases (ds.get d).parent with
  | none => cases (s.dom d).state.enabled <;> cases (s.dom d).state.active <;> simp
  | some p => cases (s.dom d).state.enabled <;> cases (s.dom d).state.active <;> simp [State.isOn]

/-- R167: the first class that rejects gives the outcome. -/
theorem judgeDomainSet_classes (s : State) (ds : Vector DomainConfig 10) :
    (¬ graphOk ds = true → s.judgeDomainSet ds = .rejDomainGraph)
      ∧ (graphOk ds = true → ¬ s.referencesKept ds = true → s.judgeDomainSet ds = .rejReference)
      ∧ (graphOk ds = true → s.referencesKept ds = true → ¬ s.liveKept ds = true → s.judgeDomainSet ds = .rejLive)
      ∧ (graphOk ds = true → s.referencesKept ds = true → s.liveKept ds = true → s.judgeDomainSet ds = .success) := by
  unfold State.judgeDomainSet
  refine ⟨fun h => by simp [h], fun h h' => by simp [h, h'], fun h h' h'' => by simp [h, h', h''],
    fun h h' h'' => by simp [h, h', h'']⟩

end Sys2Proof.Machine
end

section
/-! # How a plan is judged -/

namespace Sys2Proof.Machine

open Sys2Proof

/-! ## Steps of a kind -/

/-- R168: the plan runs a step of this kind at this index. -/
def Plan.HasKind (p : Plan) (k : StepKind) (i : Nat) : Prop := ∃ t, p.step? i = some t ∧ t.kind = k

theorem Plan.mem_live_iff {p : Plan} {x : Nat × Step} : x ∈ p.live ↔ p.step? x.1 = some x.2 :=
  ⟨Plan.step?_of_mem_live, Plan.mem_live⟩

theorem Plan.live_nodup (p : Plan) : p.live.Nodup := by
  refine List.nodup_range.filterMap fun i j x hi hj => ?_
  simp only [Option.mem_def, Option.map_eq_some_iff] at hi hj
  obtain ⟨t, -, rfl⟩ := hi
  obtain ⟨u, -, h⟩ := hj
  exact (congrArg Prod.fst h).symm

theorem Plan.mem_ofKind {p : Plan} {k : StepKind} {x : Nat × Step} :
    x ∈ p.live.filter (fun x => x.2.kind == k) ↔ p.step? x.1 = some x.2 ∧ x.2.kind = k := by
  rw [List.mem_filter, Plan.mem_live_iff, beq_iff_eq]

/-- R168: at most one step of a kind, as its index. -/
theorem Plan.ofKind_le_one (p : Plan) (k : StepKind) :
    (p.live.filter fun x => x.2.kind == k).length ≤ 1 ↔ ∀ i j, p.HasKind k i → p.HasKind k j → i = j := by
  rw [← List.toFinset_card_of_nodup (p.live_nodup.filter _), Finset.card_le_one]
  simp only [List.mem_toFinset, Plan.mem_ofKind]
  constructor
  · rintro h i j ⟨t, ht, hk⟩ ⟨u, hu, hk'⟩
    exact congrArg Prod.fst (h (i, t) ⟨ht, hk⟩ (j, u) ⟨hu, hk'⟩)
  · rintro h ⟨i, t⟩ ⟨ht, hk⟩ ⟨j, u⟩ ⟨hu, hk'⟩
    obtain rfl : i = j := h i j ⟨t, ht, hk⟩ ⟨u, hu, hk'⟩
    exact congrArg (Prod.mk i) (Option.some.inj (ht.symm.trans hu))

theorem Plan.ofKind_pos (p : Plan) (k : StepKind) :
    0 < (p.live.filter fun x => x.2.kind == k).length ↔ ∃ i, p.HasKind k i := by
  rw [List.length_pos_iff_exists_mem]
  simp only [Plan.mem_ofKind, Prod.exists]
  rfl

/-- R168: a plan with a COMMIT has a first one. -/
theorem Plan.commitIndex_of_commit {p : Plan} {c : Nat} (h : p.HasKind .commit c) : ∃ c', p.commitIndex = some c' := by
  obtain ⟨t, ht, hk⟩ := h
  have hfound : (p.live.find? fun x => x.2.kind == .commit).isSome := by
    rw [List.find?_isSome]
    exact ⟨(c, t), Plan.mem_live ht, by simpa using hk⟩
  obtain ⟨x, hx⟩ := Option.isSome_iff_exists.mp hfound
  exact ⟨x.1, by simp [Plan.commitIndex, hx]⟩

/-- R168: where a plan has one COMMIT, its first COMMIT is that one. -/
theorem Plan.commitIndex_iff {p : Plan} (hone : ∀ i j, p.HasKind .commit i → p.HasKind .commit j → i = j) (c : Nat) :
    p.commitIndex = some c ↔ p.HasKind .commit c := by
  refine ⟨Plan.step?_commitIndex, fun hc => ?_⟩
  obtain ⟨c', hc'⟩ := Plan.commitIndex_of_commit hc
  rw [hc', hone c' c (Plan.step?_commitIndex hc') hc]

theorem Plan.all_of_kind (p : Plan) (k : StepKind) (f : Nat → Bool) :
    (p.live.all fun x => x.2.kind != k || f x.1) = true ↔ ∀ i, p.HasKind k i → f i = true := by
  simp only [List.all_eq_true, Plan.mem_live_iff, Bool.or_eq_true, bne_iff_ne, Prod.forall]
  constructor
  · rintro h i ⟨t, ht, hk⟩
    exact (h i t ht).resolve_left (not_not.mpr hk)
  · intro h i t ht
    by_cases hk : t.kind = k
    · exact .inr (h i ⟨t, ht, hk⟩)
    · exact .inl hk

/-- R168: an entry plan has one COMMIT and at most one PARK, which comes before it. -/
theorem entryShape_iff (p : Plan) :
    entryShape p = true ↔
      (∃ c, p.HasKind .commit c ∧ (∀ j, p.HasKind .commit j → j = c) ∧ ∀ j, p.HasKind .park j → j < c)
        ∧ ∀ i j, p.HasKind .park i → p.HasKind .park j → i = j := by
  have hone : (p.live.filter fun x => x.2.kind == .commit).length = 1 ↔
      (∃ c, p.HasKind .commit c) ∧ ∀ i j, p.HasKind .commit i → p.HasKind .commit j → i = j := by
    rw [← Plan.ofKind_pos, ← Plan.ofKind_le_one]
    omega
  simp only [entryShape, Bool.and_eq_true, beq_iff_eq, decide_eq_true_eq, hone, Plan.ofKind_le_one]
  constructor
  · rintro ⟨⟨⟨⟨c, hc⟩, huniq⟩, hpark⟩, hbefore⟩
    rw [(Plan.commitIndex_iff huniq c).mpr hc] at hbefore
    exact ⟨⟨c, hc, fun j hj => huniq j c hj hc, fun j hj =>
      of_decide_eq_true ((Plan.all_of_kind p .park fun i => decide (i < c)).mp hbefore j hj)⟩, hpark⟩
  · rintro ⟨⟨c, hc, huniq, hbefore⟩, hpark⟩
    have huniq' (i j : Nat) (hi : p.HasKind .commit i) (hj : p.HasKind .commit j) : i = j :=
      (huniq i hi).trans (huniq j hj).symm
    rw [(Plan.commitIndex_iff huniq' c).mpr hc]
    exact ⟨⟨⟨⟨c, hc⟩, huniq'⟩, hpark⟩, (Plan.all_of_kind p .park fun i => decide (i < c)).mpr fun j hj =>
      decide_eq_true (hbefore j hj)⟩

/-! ## The shape rules of a step -/

/-- R168: the shape rules of the step `t` at index `i`, where `commits` tells at which indexes the plan commits. -/
def Step.ShapeRules (t : Step) (k : SlotId) (commits : Nat → Prop) (i : Nat) : Prop :=
  (t.kind = .park ∨ t.kind = .commit → k.val ≤ 2)
    ∧ (t.kind = .enable ∨ t.kind = .awaitGood ∨ t.kind = .sync ∨ t.kind = .guard ∨ t.kind = .retry → k.val ≤ 5)
    ∧ (t.kind = .park → t.unit = .milli)
    ∧ (t.unit = .learned → t.kind = .awaitGood ∨ t.kind = .awaitLow)
    ∧ (t.action = .abort → k.val ≤ 2 ∧ ∃ c, commits c ∧ i < c)
    ∧ (t.action = .trip → k.val ≤ 5)
    ∧ (t.kind = .retry → t.retryTarget < i ∧ ∀ c, k.val ≤ 2 → commits c → c < i → c < t.retryTarget)

theorem kindLegal_iff (k : SlotId) (x : StepKind) :
    kindLegal k x = true ↔
      (x = .park ∨ x = .commit → k.val ≤ 2)
        ∧ (x = .enable ∨ x = .awaitGood ∨ x = .sync ∨ x = .guard ∨ x = .retry → k.val ≤ 5) := by
  cases x <;> simp [kindLegal]

theorem unitLegal_iff (x : StepKind) (u : StepUnit) :
    unitLegal x u = true ↔ (x = .park → u = .milli) ∧ (u = .learned → x = .awaitGood ∨ x = .awaitLow) := by
  cases x <;> cases u <;> simp [unitLegal]

theorem actionLegal_iff (k : SlotId) (c : Option Nat) (i : Nat) (a : FailAction) :
    actionLegal k c i a = true ↔
      (a = .abort → k.val ≤ 2 ∧ ∃ n, c = some n ∧ i < n) ∧ (a = .trip → k.val ≤ 5) := by
  cases a with
  | abort => cases c <;> simp [actionLegal]
  | trip => simp [actionLegal]
  | cont => simp [actionLegal]

theorem retryLegal_iff (k : SlotId) (c : Option Nat) (i : Nat) (t : Step) :
    retryLegal k c i t = true ↔
      (t.kind = .retry → t.retryTarget < i ∧ ∀ n, k.val ≤ 2 → c = some n → n < i → n < t.retryTarget) := by
  unfold retryLegal
  by_cases hk : t.kind = .retry
  · cases c with
    | none => simp [hk]
    | some n => by_cases h2 : k.val ≤ 2 <;> by_cases hn : n < i <;> simp [hk, h2, hn]
  · simp [hk]

theorem stepShape_iff (k : SlotId) (c : Option Nat) (i : Nat) (t : Step) :
    stepShape k c (i, t) = true ↔ t.ShapeRules k (fun n => c = some n) i := by
  simp only [stepShape, Bool.and_eq_true, kindLegal_iff, unitLegal_iff, actionLegal_iff, retryLegal_iff,
    Step.ShapeRules, and_assoc]

/-- R168: only an entry plan's rules ask where the plan commits. -/
theorem Step.ShapeRules.congr (t : Step) (k : SlotId) (i : Nat) {P Q : Nat → Prop}
    (h : k.val ≤ 2 → ∀ c, P c ↔ Q c) : t.ShapeRules k P i ↔ t.ShapeRules k Q i := by
  by_cases hk : k.val ≤ 2
  · rw [show P = Q from funext fun c => propext (h hk c)]
  · simp [Step.ShapeRules, hk]

/-- R168: the shape rules of a plan. -/
theorem planShape_iff (k : SlotId) (p : Plan) :
    planShape k p = true ↔
      (k.val ≤ 2 → (∃ c, p.HasKind .commit c ∧ (∀ j, p.HasKind .commit j → j = c) ∧ ∀ j, p.HasKind .park j → j < c)
          ∧ ∀ i j, p.HasKind .park i → p.HasKind .park j → i = j)
        ∧ ∀ i t, p.step? i = some t → t.ShapeRules k (p.HasKind .commit) i := by
  have hentry : (3 ≤ k.val ∨ entryShape p = true) ↔ (k.val ≤ 2 → entryShape p = true) := by
    rw [imp_iff_not_or, not_le]
    rfl
  simp only [planShape, Bool.and_eq_true, Bool.or_eq_true, decide_eq_true_eq, List.all_eq_true, Plan.mem_live_iff,
    Prod.forall, stepShape_iff, hentry, ← entryShape_iff]
  refine and_congr_right fun hshape => forall_congr' fun i => forall_congr' fun t => imp_congr_right fun _ => ?_
  refine Step.ShapeRules.congr t k i fun hk => Plan.commitIndex_iff fun a b ha hb => ?_
  obtain ⟨⟨c, -, huniq, -⟩, -⟩ := (entryShape_iff p).mp (hshape hk)
  exact (huniq a ha).trans (huniq b hb).symm

/-! ## The references of a step -/

theorem tracksKey_iff (s : State) (p : Port) (a : BitVec 4) (n : Byte) :
    s.tracksKey p a n = true ↔ ∃ e, s.lookup p a n = some e ∧ e.track = true := by
  unfold State.tracksKey
  cases s.lookup p a n <;> simp

/-- R168: what a step names, by its kind. -/
def State.Reaches (s : State) (t : Step) : Prop :=
  (t.kind = .enable ∨ t.kind = .disable ∨ t.kind = .awaitGood ∨ t.kind = .awaitLow →
      ∃ d, t.place = .domain d ∧ (s.cfg d).present = true)
    ∧ (t.kind = .emit ∨ t.kind = .sync → ∃ r, t.place = .port r)
    ∧ (t.kind = .guard →
      ∃ r e, t.place = .port r ∧ s.lookup r t.agent t.signal = some e ∧ e.track = true)

theorem stepReference_iff (s : State) (t : Step) : s.stepReference t = true ↔ s.Reaches t := by
  unfold State.stepReference State.Reaches
  cases hp : t.place with
  | domain d => cases t.kind <;> simp
  | port p => cases t.kind <;> simp [tracksKey_iff]

/-- R168: the first class that rejects gives the outcome. -/
theorem judgePlan_classes (s : State) (k : SlotId) (p : Plan) :
    let reaches : Prop := ∀ i t, p.step? i = some t → s.Reaches t
    (p.count = 0 → s.judgePlan k p = .rejEmpty)
      ∧ (p.count ≠ 0 → ¬ planShape k p = true → s.judgePlan k p = .rejShape)
      ∧ (p.count ≠ 0 → planShape k p = true → ¬ reaches → s.judgePlan k p = .rejReference)
      ∧ (p.count ≠ 0 → planShape k p = true → reaches → s.judgePlan k p = .success) := by
  intro reaches
  have hreach : (p.live.all fun x => s.stepReference x.2) = true ↔ reaches := by
    simp only [List.all_eq_true, Plan.mem_live_iff, Prod.forall, stepReference_iff]
    rfl
  unfold State.judgePlan
  rw [← hreach]
  refine ⟨fun h => by simp [h], fun h h' => by simp [h, h'], fun h h' h'' => ?_, fun h h' h'' => ?_⟩
  · rw [if_neg h, h', if_neg (by simp), if_pos (by simpa using h'')]
  · rw [if_neg h, h', if_neg (by simp), if_neg (by simpa using h'')]

end Sys2Proof.Machine
end

section
/-! # The copy of a domain set -/

namespace Sys2Proof.Machine

open Sys2Proof

/-! ## The records replaced -/

/-- R84: the runtime record of a domain that the copy takes away, or leaves. -/
def DomainRuntime.takenAway (r : DomainRuntime) (old new : DomainConfig) : DomainRuntime :=
  { r with
    state := if removed old new then .off else r.state
    hold := if removed old new then none else r.hold
    change := r.change || removed old new && r.state == .fault }

/-- R84, R99: the runtime record of a domain whose configuration record `old` is replaced by `new`. -/
def DomainRuntime.copied (r : DomainRuntime) (old new : DomainConfig) : DomainRuntime :=
  (r.takenAway old new).rewindow old new

/-- R84: a FAULT domain moves by being taken away. -/
def DomainRuntime.removedFault (r : DomainRuntime) (old new : DomainConfig) : Prop :=
  removed old new = true ∧ r.state = .fault

/-- R84: of the domains that are taken away, a FAULT domain alone changes its state with a notice. -/
theorem takenAway_rewrites (s : State) (d : DomainId) (old new : DomainConfig) :
    s.Rewrites (if removed old new then s.removeDomain d else s)
      (fun e => if e = d then (s.dom e).takenAway old new else s.dom e) ((s.dom d).removedFault old new) := by
  unfold State.removeDomain DomainRuntime.removedFault DomainRuntime.takenAway
  dsimp only
  cases hr : removed old new
  · exact (State.Rewrites.refl s).congr (fun e => by simp) (by simp)
  · by_cases hf : (s.dom d).state = .fault
    · rw [if_pos rfl, if_pos hf]
      refine (State.Rewrites.changeDom s d _).congr (fun e => ?_) (by simp [hf])
      by_cases he : e = d
      · simp [he, hf]
      · simp [he]
    · rw [if_pos rfl, if_neg hf]
      refine (State.Rewrites.setDom s d _).congr (fun e => ?_) (by simp [hf])
      by_cases he : e = d
      · simp [he, hf]
      · simp [he]

theorem recordCopied_rewrites (s : State) (d : DomainId) (old new : DomainConfig) :
    s.Rewrites (s.recordCopied d old new) (fun e => if e = d then (s.dom e).copied old new else s.dom e)
      ((s.dom d).removedFault old new) := by
  have hv := takenAway_rewrites s d old new
  have hself := hv.dom d
  rw [if_pos rfl] at hself
  have hset := State.Rewrites.setDom (if removed old new then s.removeDomain d else s) d
    (((s.dom d).takenAway old new).rewindow old new)
  rw [← hself] at hset
  refine (hv.trans hset).congr (fun e => ?_) (by simp)
  by_cases he : e = d
  · rw [if_pos he, if_pos he, he, hself]
    rfl
  · rw [if_neg he, if_neg he, hv.dom, if_neg he]

/-- R84: the records of a list of domains, one after another; none depends on another's. -/
theorem recordsCopied_rewrites (old new : DomainId → DomainConfig) {l : List DomainId} (hnd : l.Nodup) (s : State) :
    s.Rewrites (l.foldl (fun t d => t.recordCopied d (old d) (new d)) s)
      (fun e => if e ∈ l then (s.dom e).copied (old e) (new e) else s.dom e)
      (∃ e ∈ l, (s.dom e).removedFault (old e) (new e)) := by
  induction l generalizing s with
  | nil => exact (State.Rewrites.refl s).congr (fun e => by simp) (by simp)
  | cons d l ih =>
    obtain ⟨hfresh, hnd⟩ := List.nodup_cons.mp hnd
    have hne {e : DomainId} (he : e ∈ l) : e ≠ d := fun h => hfresh (h ▸ he)
    have hr := recordCopied_rewrites s d (old d) (new d)
    refine (hr.trans (ih hnd (s.recordCopied d (old d) (new d)))).congr (fun e => ?_) ?_
    · by_cases hed : e = d
      · subst hed
        simp [hfresh, hr.dom]
      · simp [hed, hr.dom]
    · simp only [List.mem_cons, exists_eq_or_imp]
      refine or_congr_right (exists_congr fun e => and_congr_right fun he => ?_)
      rw [hr.dom, if_neg (hne he)]

/-- R170: the state in which the active set's domains are these. -/
def State.withDomains (s : State) (ds : Vector DomainConfig 10) : State :=
  { s with active := { s.active with domains := ds } }

theorem recordsReplaced_rewrites (s : State) (ds : Vector DomainConfig 10) :
    (s.withDomains ds).Rewrites (s.recordsReplaced ds) (fun d => (s.dom d).copied (s.cfg d) (ds.get d))
      (∃ d, (s.dom d).removedFault (s.cfg d) (ds.get d)) := by
  have hr := recordsCopied_rewrites s.active.domains.get ds.get (l := allDomains) (by decide) (s.withDomains ds)
  refine hr.congr (fun d => if_pos (mem_allDomains d)) (exists_congr fun d => ?_)
  exact and_iff_right (mem_allDomains d)

/-! ## The pinned domains tested -/

/-- R84: the copy tests a domain that becomes pinned, and a pinned one whose parent changes. -/
def pinnedTested (old new : DomainConfig) : Bool := new.pinned && (!old.pinned || new.parent != old.parent)

/-- R82, R84: the domain is enabled by the copy of the set. -/
def State.copyDue (s : State) (ds : Vector DomainConfig 10) (d : DomainId) : Prop :=
  (ds.get d).present = true ∧ (ds.get d).pinned = true
    ∧ ((s.cfg d).pinned = false ∨ (ds.get d).parent ≠ (s.cfg d).parent)
    ∧ ((s.dom d).state = .off ∨ (s.dom d).state = .fault) ∧ (s.dom d).hold = none ∧ (s.dom d).pg = false
    ∧ ∀ p, (ds.get d).parent = some p → (s.dom p).state = .on

theorem copyDomainSet_eq (s : State) (ds : Vector DomainConfig 10) :
    s.copyDomainSet ds =
      (s.recordsReplaced ds).testPinned (fun d => pinnedTested (s.cfg d) (ds.get d)) allDomains := rfl

/-- R84: a domain that stays present keeps its state and its hold-off. -/
theorem copied_of_present (r : DomainRuntime) (old : DomainConfig) {new : DomainConfig} (h : new.present = true) :
    (r.copied old new).state = r.state ∧ (r.copied old new).hold = r.hold := by
  have hr : ¬ removed old new = true := by simp [removed, h]
  exact ⟨if_neg hr, if_neg hr⟩

/-- R82, R84: a test of the copy finds its domain due by the records before the copy. -/
theorem copyDue_iff (s : State) {ds : Vector DomainConfig 10} (hg : graphOk ds = true) (d : DomainId) :
    pinnedTested (s.cfg d) (ds.get d) = true ∧ (s.recordsReplaced ds).pinnedDue d = true ↔ s.copyDue ds d := by
  have hr := recordsReplaced_rewrites s ds
  have hcfg (e : DomainId) : (s.recordsReplaced ds).cfg e = ds.get e := hr.cfg e
  obtain ⟨⟨rank, hrank⟩, -, -⟩ := (graphOk_iff s ds).mp hg
  have htest : pinnedTested (s.cfg d) (ds.get d) = true ↔
      (ds.get d).pinned = true ∧ ((s.cfg d).pinned = false ∨ (ds.get d).parent ≠ (s.cfg d).parent) := by
    simp [pinnedTested]
  rw [pinnedDue_iff, htest, hcfg]
  by_cases hd : (ds.get d).present = true
  · obtain ⟨hstate, hhold⟩ := copied_of_present (s.dom d) (s.cfg d) hd
    have hpg : ((s.dom d).copied (s.cfg d) (ds.get d)).pg = (s.dom d).pg := rfl
    have hparents : (∀ p, (ds.get d).parent = some p → ((s.recordsReplaced ds).dom p).state = .on) ↔
        ∀ p, (ds.get d).parent = some p → (s.dom p).state = .on := by
      refine forall_congr' fun p => imp_congr_right fun hp => ?_
      rw [hr.dom, (copied_of_present _ _ (hrank d p hd hp).1).1]
    rw [hparents, hr.dom, hstate, hhold, hpg]
    constructor
    · rintro ⟨⟨-, hnew⟩, hpres, hpin, hrest⟩
      exact ⟨hpres, hpin, hnew, hrest⟩
    · rintro ⟨hpres, hpin, hnew, hrest⟩
      exact ⟨⟨hpin, hnew⟩, hpres, hpin, hrest⟩
  · exact ⟨fun h => absurd h.2.1 hd, fun h => absurd h.1 hd⟩

/-- R82, R84, R99, R170: what the copy of an accepted set does to the domains, and when it raises its notice. -/
theorem copyDomainSet_rewrites (s : State) {ds : Vector DomainConfig 10} (hg : graphOk ds = true)
    [∀ d, Decidable (s.copyDue ds d)] :
    (s.withDomains ds).Rewrites (s.copyDomainSet ds)
      (fun d => if s.copyDue ds d then ((s.dom d).copied (s.cfg d) (ds.get d)).enabledTo .rising s.fine
        else (s.dom d).copied (s.cfg d) (ds.get d))
      (∃ d, (s.dom d).removedFault (s.cfg d) (ds.get d) ∨ s.copyDue ds d) := by
  have hr := recordsReplaced_rewrites s ds
  have ht := testPinned_rewrites (s.recordsReplaced ds) (fun d => pinnedTested (s.cfg d) (ds.get d)) (l := allDomains)
    (by decide)
  have hfine : (s.recordsReplaced ds).fine = s.fine := hr.fine
  rw [copyDomainSet_eq]
  refine (hr.trans ht).congr (fun d => ?_) ?_
  · simp only [mem_allDomains, true_and, copyDue_iff s hg, hr.dom, hfine]
  · simp only [mem_allDomains, true_and, copyDue_iff s hg, exists_or]

end Sys2Proof.Machine

open Sys2Proof Sys2Proof.Machine in
/-- Settles O48: each judgement's classes are its three tests in their order, and the copy replaces every record before
it tests a pinned domain. -/
theorem itemsAreJudgedAndCopied : Obligations.ItemsAreJudgedAndCopied := by
  classical
  refine ⟨fun ds s => ?domains, fun k p s => ?plan, fun ds s hj => ?copy⟩
  case domains =>
    intro graph removesNamed strandsLive
    have hgraph : graphOk ds = true ↔ graph := graphOk_iff s ds
    have hnamed : s.referencesKept ds = true ↔ ¬ removesNamed := by
      rw [referencesKept_iff]
      simp only [planNames_iff]
      rfl
    have hlive : s.liveKept ds = true ↔ ¬ strandsLive := by
      rw [liveKept_iff]
      simp only [enabled_iff, active_iff]
      rfl
    have hclasses := judgeDomainSet_classes s ds
    rw [hgraph, hnamed, hlive, not_not, not_not] at hclasses
    exact hclasses
  case plan =>
    intro commits parks shape reaches
    have hshape : planShape k p = true ↔ shape := planShape_iff k p
    have hclasses := judgePlan_classes s k p
    rw [hshape] at hclasses
    exact hclasses
  case copy =>
    intro u removed due copied moves
    obtain ⟨hg, -, -⟩ := judgeDomainSet_success hj
    have hr := copyDomainSet_rewrites s hg
    refine ⟨hr.frame, fun d => ⟨fun hd => ?_, fun hd => ?_⟩, hr.raised, hr.quiet⟩
    · exact (hr.dom d).trans (if_pos hd)
    · exact (hr.dom d).trans (if_neg hd)
end

section
/-! # An empty queue, and the learned figures -/

namespace Sys2Proof.Machine

open Sys2Proof

/-! ## What the block does of itself -/

theorem step_nil {s : State} (h : s.pending = []) : step s = s.idle := by
  simp [step, h]

theorem idle_of_due {s : State} {c : Instr} (h : s.dueCommand = some c) : s.idle = exec c s := by
  simp [State.idle, h]

theorem idle_of_none {s : State} (h : s.dueCommand = none) : s.idle = s.pass := by
  simp [State.idle, h]

/-- The milli counter stands where the new fine tick is no multiple of 1,024. -/
theorem tick_of_mod_ne_zero {s : State} (h : (s.fine + 1).toNat % 1024 ≠ 0) :
    s.tick = { s with fine := s.fine + 1 } :=
  congrArg (fun m : Tick => { s with fine := s.fine + 1, milli := m }) (if_neg h)

theorem tick_of_mod_eq_zero {s : State} (h : (s.fine + 1).toNat % 1024 = 0) :
    s.tick = { s with fine := s.fine + 1, milli := s.milli + 1 } :=
  congrArg (fun m : Tick => { s with fine := s.fine + 1, milli := m }) (if_pos h)

/-- The counter wraps, so that one more is always another value: `State.pass` sees every advance. -/
theorem tick_succ_ne (m : Tick) : m + 1 ≠ m := by bv_omega

theorem exec_indicatorPhaseAdvance (s : State) :
    exec .indicatorPhaseAdvance s = .next { s with indicator := s.indicator.advance s.selected } := rfl

theorem pass_of_mod_ne_zero {s : State} (h : (s.fine + 1).toNat % 1024 ≠ 0) :
    s.pass = .next { s with fine := s.fine + 1 } := by
  rw [State.pass, tick_of_mod_ne_zero h, if_pos rfl]

/-- R128: the pattern selected is the platform state's, which a tick leaves. -/
theorem pass_of_mod_eq_zero {s : State} (h : (s.fine + 1).toNat % 1024 = 0) :
    s.pass = .next { s with
      fine := s.fine + 1, milli := s.milli + 1, indicator := s.indicator.advance s.selected } := by
  rw [State.pass, tick_of_mod_eq_zero h, if_neg (tick_succ_ne s.milli), exec_indicatorPhaseAdvance]
  rfl

/-! ## The learned figures -/

theorem learnedBudget_none (lo hi : Nat) : learnedBudget none lo hi = hi := rfl

/-- R100: an average counts four samples, so that one and a half times the mean is three eighths of it. -/
theorem learnedBudget_some (a lo hi : Nat) : learnedBudget (some a) lo hi = min (max ((3 * a + 7) / 8) lo) hi := rfl

theorem learnedBudget_of_window {a lo hi : Nat} (hlo : lo ≤ (3 * a + 7) / 8) (hhi : (3 * a + 7) / 8 ≤ hi) :
    learnedBudget (some a) lo hi = (3 * a + 7) / 8 := by
  rw [learnedBudget_some, max_eq_left hlo, min_eq_left hhi]

theorem learnedBudget_le (avg : Option Nat) (lo hi : Nat) : learnedBudget avg lo hi ≤ hi := by
  cases avg with
  | none => exact le_rfl
  | some a => exact min_le_right _ _

theorem le_learnedBudget (avg : Option Nat) {lo hi : Nat} (h : lo ≤ hi) : lo ≤ learnedBudget avg lo hi := by
  cases avg with
  | none => exact h
  | some a => exact le_min (le_max_right _ _) h

theorem updateAvg_none (value : Nat) : updateAvg none value = 4 * value := rfl

theorem updateAvg_some (a value : Nat) : updateAvg (some a) value = a - a / 4 + value := rfl

/-- R98: a quarter of the average, rounded down, gives way to the sample; what is left of it grows with it, and is three
times a bound where the average is four times that bound. -/
theorem updateAvg_window {avg : Option Nat} {lo hi value : Nat} (hlo : lo ≤ value) (hhi : value ≤ hi)
    (havg : ∀ a, avg = some a → 4 * lo ≤ a ∧ a ≤ 4 * hi) :
    4 * lo ≤ updateAvg avg value ∧ updateAvg avg value ≤ 4 * hi := by
  cases avg with
  | none =>
    rw [updateAvg_none]
    omega
  | some a =>
    obtain ⟨hbelow, habove⟩ := havg a rfl
    have hleft : 3 * lo ≤ a - a / 4 ∧ a - a / 4 ≤ 3 * hi := by omega
    rw [updateAvg_some]
    omega

theorem updateAvg_fixed (value : Nat) : updateAvg (some (4 * value)) value = 4 * value := by
  rw [updateAvg_some]
  omega

end Sys2Proof.Machine

open Sys2Proof Sys2Proof.Machine in
/-- Settles O2: the queue is empty, so the block acts of itself; without a due event it lets a tick pass, and the milli
counter tells the two cases of that apart. -/
theorem idleStepTakesDueEventOrTicks : Obligations.IdleStepTakesDueEventOrTicks := by
  intro s hq
  rw [step_nil hq]
  refine ⟨fun c hdue => idle_of_due hdue, fun hdue hmod => ?_, fun hdue hmod => ?_⟩
  · rw [idle_of_none hdue, pass_of_mod_ne_zero hmod]
  · rw [idle_of_none hdue, pass_of_mod_eq_zero hmod]

open Sys2Proof Sys2Proof.Machine in
/-- Settles O39: the budget is cut to the window at both ends, and an average within four times the window is kept there
by every sample within the window. -/
theorem learnedFiguresStayInWindow : Obligations.LearnedFiguresStayInWindow := by
  intro avg lo hi hwin
  refine ⟨le_learnedBudget avg hwin, learnedBudget_le avg lo hi, learnedBudget_none lo hi,
    fun a => learnedBudget_of_window, fun value hlo hhi havg => ?_⟩
  obtain ⟨hbelow, habove⟩ := updateAvg_window hlo hhi havg
  exact ⟨hbelow, habove, updateAvg_fixed value⟩
end

section
/-! # A request that finds the configuration unit ready

A request of the hub that finds both heads and the input queue empty, and a place for its response, is executed and
answered in its own event (R182). -/

namespace Sys2Proof.Machine

open Sys2Proof

/-! ## What an executed request leaves -/

/-- The record of W0, both heads, the link of UP and the queues: what no executed request changes. -/
structure State.Spares (s t : State) : Prop where
  source : t.wakes.get 0 = s.wakes.get 0
  upHead : t.up.head = s.up.head
  dnHead : t.dn.head = s.dn.head
  link : t.up.linkUp = s.up.linkUp
  queues : t.queues = s.queues

namespace State.Spares

variable {s t u : State}

theorem of_eq (hw : t.wakes = s.wakes) (hu : t.up = s.up) (hd : t.dn = s.dn) (hq : t.queues = s.queues) : s.Spares t :=
  ⟨by rw [hw], by rw [hu], by rw [hd], by rw [hu], hq⟩

theorem refl (s : State) : s.Spares s := of_eq rfl rfl rfl rfl

theorem trans (h : s.Spares t) (k : t.Spares u) : s.Spares u :=
  ⟨k.source.trans h.source, k.upHead.trans h.upHead, k.dnHead.trans h.dnHead, k.link.trans h.link,
    k.queues.trans h.queues⟩

/-! ### Applies -/

theorem applyDomains (s : State) : s.Spares s.applyDomains := by
  classical
  have outcome (t : State) (st : ApplyStatus) : t.Spares (t.setOutcome 7 st) := of_eq rfl rfl rfl rfl
  refine trans ?_ (outcome _ _)
  split
  · rename_i hj
    obtain ⟨hg, -, -⟩ := judgeDomainSet_success hj
    rw [(copyDomainSet_rewrites s hg).frame]
    exact of_eq rfl rfl rfl rfl
  · exact refl s

theorem applyPlan (s : State) (k : SlotId) : s.Spares (s.applyPlan k) := by
  unfold State.applyPlan
  dsimp only
  split
  · exact of_eq rfl rfl rfl rfl
  · exact of_eq rfl rfl rfl rfl

theorem applySelected (s : State) (sel : ItemId → Bool) : s.Spares (s.applySelected sel) := by
  unfold State.applySelected
  split
  · refine trans ?_ (of_eq (State.notify_wakes _ _) (State.notify_up _ _) (State.notify_dn _ _) (State.notify_queues _ _))
    unfold State.applyItems
    refine List.foldlRecOn (motive := s.Spares) _ _ ?_ fun t ht k _ => ?_
    · split
      · exact applyDomains s
      · exact refl s
    · split
      · exact ht.trans (applyPlan t k)
      · exact ht
  · exact refl s

theorem markItems (s : State) (sel : ItemId → Bool) : s.Spares (s.markItems sel) := by
  refine List.foldlRecOn (motive := s.Spares) _ _ (refl s) fun t ht k _ => ?_
  split
  · exact ht.trans (of_eq rfl rfl rfl rfl)
  · exact ht

/-! ### Writes -/

theorem command (s : State) (code arg : Nat) : s.Spares (s.command code arg).1 := by
  unfold State.command
  split
  case h_1 =>
    split
    · exact refl s
    · split
      · exact refl s
      · exact applySelected s _
  case h_2 =>
    split
    · exact refl s
    · exact markItems s _
  case h_3 => split <;> exact of_eq rfl rfl rfl rfl
  case h_4 => split <;> exact of_eq rfl rfl rfl rfl
  case h_7 => exact ⟨rfl, rfl, rfl, rfl, rfl⟩
  all_goals exact of_eq rfl rfl rfl rfl

theorem writeHeader (s : State) (k : SlotId) (sel : List (Option Nat)) : s.Spares (s.writeHeader k sel).1 := by
  unfold State.writeHeader
  dsimp only
  split
  · split <;> exact of_eq rfl rfl rfl rfl
  · exact refl s

theorem writeStep (s : State) (k : SlotId) (i : Fin 32) (sel : List (Option Nat)) : s.Spares (s.writeStep k i sel).1 := by
  unfold State.writeStep
  dsimp only
  split <;> exact of_eq rfl rfl rfl rfl

theorem writeDomain (s : State) (d : DomainId) (sel : List (Option Nat)) : s.Spares (s.writeDomain d sel).1 := by
  unfold State.writeDomain
  split <;> exact of_eq rfl rfl rfl rfl

theorem writeCounting (s : State) (d : DomainId) (sel : List (Option Nat)) : s.Spares (s.writeCounting d sel).1 := by
  unfold State.writeCounting
  split <;> exact of_eq rfl rfl rfl rfl

theorem writeSignal (s : State) (i : Fin 64) (sel : List (Option Nat)) : s.Spares (s.writeSignal i sel).1 := by
  unfold State.writeSignal
  dsimp only
  split
  · exact refl s
  · split <;> exact of_eq rfl rfl rfl rfl

/-- R103: a write to W0 is refused or leaves its record, and one to another source does not reach it. -/
theorem writeWake (s : State) (n : SourceId) (sel : List (Option Nat)) : s.Spares (s.writeWake n sel).1 := by
  unfold State.writeWake
  split
  · split <;> exact refl s
  · rename_i hn
    split
    · exact ⟨get_set_of_ne _ _ (Ne.symm hn), rfl, rfl, rfl, rfl⟩
    · exact refl s

theorem writeAgent (s : State) (i : Fin 14) (sel : List (Option Nat)) : s.Spares (s.writeAgent i sel).1 := by
  unfold State.writeAgent
  split
  · exact refl s
  · split <;> exact of_eq rfl rfl rfl rfl

theorem writePattern (s : State) (k : Fin 4) (sel : List (Option Nat)) : s.Spares (s.writePattern k sel).1 := by
  have pattern (q : Option IndPattern) : s.Spares (match q with | some q => s.setPattern k q | none => s) := by
    cases q <;> exact of_eq rfl rfl rfl rfl
  have times (t : State) (x : Option (Nat × Nat)) : t.Spares (match x with | some x => t.setTimes x | none => t) := by
    cases x <;> exact of_eq rfl rfl rfl rfl
  unfold State.writePattern
  split
  · exact refl s
  · exact refl s
  · split
    · exact refl s
    · dsimp only [accept]
      split
      · refine trans ?_ (times _ _)
        split
        · exact pattern _
        · exact refl s
      · split
        · exact pattern _
        · exact refl s

theorem writeTable (s : State) (table index : Nat) (sel : List (Option Nat)) :
    s.Spares (s.writeTable table index sel).1 := by
  unfold State.writeTable
  split
  · exact command s _ _
  · split
    · exact writeHeader s _ _
    · exact refl s
  · split
    · exact writeStep s _ _ _
    · exact refl s
  · split
    · exact writeDomain s _ _
    · exact refl s
  · split
    · exact writeCounting s _ _
    · exact refl s
  · split
    · exact writeSignal s _ _
    · exact refl s
  · split
    · exact writeWake s _ _
    · exact refl s
  · split
    · exact writeAgent s _ _
    · exact refl s
  · split
    · exact writePattern s _ _
    · exact refl s
  · exact refl s

theorem executeWrite (s : State) (table index : Nat) (mask : BitVec 16) (values : List Byte) :
    s.Spares (s.executeWrite table index mask values).1 := by
  obtain e | ⟨n, -, -, e⟩ | ⟨sel, -, -, -, -, -, -, e⟩ := executeWrite_cases s table index mask values
  · rw [e]
    exact refl s
  · rw [e]
    exact of_eq rfl rfl rfl rfl
  · rw [e]
    exact writeTable s table index sel

theorem executeRead (s : State) (table index : Nat) : s.Spares (s.executeRead table index).1 := by
  unfold State.executeRead State.afterRead
  split
  · exact refl s
  · split
    · exact refl s
    · dsimp only
      split <;> exact of_eq rfl rfl rfl rfl

theorem execute (s : State) (f : Frame) : s.Spares (s.execute f).1 := by
  unfold State.execute
  dsimp only
  split
  · exact executeWrite s _ _ _ _
  all_goals exact executeRead s _ _

theorem headsEmpty (h : s.Spares t) (hs : s.HeadsEmpty) : t.HeadsEmpty :=
  ⟨h.upHead.trans hs.1, h.dnHead.trans hs.2⟩

end State.Spares

/-! ## The event of a request -/

/-- R182: the response of an executed request is placed, or discarded at the DOWN port. -/
theorem respond_eq_answered {t : State} (hroom : t.up.linkUp = true → t.queues.upRsp.length < 4) (f : Frame)
    (st : CfgStatus) (record : List Byte) :
    t.respond (cfgResponse f st record) = t.answered f.tag (f.body.getD 0 0) (f.body.getD 1 0) st record := by
  unfold State.respond State.answered
  by_cases hl : t.up.linkUp = true
  · rw [if_pos hl, if_pos hl]
    obtain ⟨-, e⟩ | ⟨hfull, -⟩ := enqueue_cases t .upRsp (cfgResponse f st record)
    · exact e
    · have hplace : t.hasPlace .upRsp = true := (hasPlace_iff t .upRsp).mpr (hroom hl)
      simp [hplace] at hfull
  · rw [if_neg hl, if_neg hl]
    rfl

theorem answered_headsEmpty {t : State} (h : t.HeadsEmpty) (tag : BitVec 4) (table index : Byte) (st : CfgStatus)
    (record : List Byte) : (t.answered tag table index st record).HeadsEmpty := by
  unfold State.answered
  split <;> exact h

/-- A request that finds the unit ready joins the empty input queue. -/
theorem offerRequest_ready {s : State} {f : Frame} (h : s.ConfigReady) (hf : f.wf = true) :
    s.offerRequest f = (s.setQueue .cfgIn [f], [.serve]) := by
  obtain ⟨⟨hup, -⟩, hq, -⟩ := h
  have hplace : s.hasPlace .cfgIn = true := by simp [State.hasPlace, State.queue, Queues.get, hq, capacity]
  simp [State.offerRequest, State.enqueue, State.queue, Queues.get, hf, hq, hup, hplace]

theorem serveRequest_cons {s : State} {f : Frame} {rest : List Frame} (hq : s.queues.cfgIn = f :: rest)
    (hs : s.mayServe = true) :
    s.serveRequest = ((s.setQueue .cfgIn rest).execute f).1.respond ((s.setQueue .cfgIn rest).execute f).2 := by
  simp [State.serveRequest, hq, hs]

/-- R182: a request alone in the input queue is taken, executed and answered. -/
theorem serveRequest_ready {s : State} (h : s.ConfigReady) (f : Frame) :
    (s.setQueue .cfgIn [f]).serveRequest = (s.execute f).1.respond (s.execute f).2 := by
  obtain ⟨-, hq, hroom⟩ := h
  have hserve : (s.setQueue .cfgIn [f]).mayServe = true := by
    cases hl : s.up.linkUp
    · simp [State.mayServe, hl]
    · simp [State.mayServe, hasPlace_iff, State.queue, State.setQueue, Queues.put, Queues.get, hroom hl, capacity]
  have hback : (s.setQueue .cfgIn [f]).setQueue .cfgIn [] = s := by
    have hput : s.queues.put .cfgIn [] = s.queues := by
      rw [← hq]
      exact Queues.put_get s.queues .cfgIn
    simp only [State.setQueue, Queues.put_put, hput]
  rw [serveRequest_cons rfl hserve, hback]

/-- R182: what the event of a request that finds the unit ready comes to. -/
theorem request_ready {s t : State} {f : Frame} {st : CfgStatus} {record : List Byte} (h : s.ConfigReady)
    (hf : f.wf = true) (he : s.execute f = (t, cfgResponse f st record)) :
    s.request f = .next (s.ends (t.answered f.tag (f.body.getD 0 0) (f.body.getD 1 0) st record)) := by
  have hkept : s.Spares t := by
    have hexec := State.Spares.execute s f
    rwa [he] at hexec
  have hserved : micro .serve (s.setQueue .cfgIn [f])
      = (t.answered f.tag (f.body.getD 0 0) (f.body.getD 1 0) st record, []) := by
    have hroom : t.up.linkUp = true → t.queues.upRsp.length < 4 := by
      rw [hkept.link, hkept.queues]
      exact h.2.2
    rw [micro, serveRequest_ready h, he, respond_eq_answered hroom]
  rw [State.request, offerRequest_ready h hf]
  exact event_comesTo ⟨1, by decide, quiesce_one hserved, answered_headsEmpty (hkept.headsEmpty h.1) ..⟩

theorem cfgWrite_wf {values : List Byte} (h : valuesFit values = true) (tag : BitVec 4) (table index : Byte)
    (mask : BitVec 16) : (cfgWrite tag table index mask values).wf = true := by
  have hlen : values.length + 1 + 1 + 1 < 32 := by
    have hfit : values.length ≤ 28 := by simpa [valuesFit] using h
    omega
  simpa [Frame.wf, bodyFits, cfgWrite, fieldBytes_two] using hlen

/-- R183, R184: a write that finds the unit ready is answered with its status. -/
theorem request_write {s t : State} {tag : BitVec 4} {table index : Byte} {mask : BitVec 16} {values : List Byte}
    {st : CfgStatus} (h : s.ConfigReady) (hv : valuesFit values = true)
    (he : s.executeWrite table.toNat index.toNat mask values = (t, st)) :
    s.request (cfgWrite tag table index mask values) = .next (s.ends (t.answered tag table index st [])) := by
  have hexec : s.execute (cfgWrite tag table index mask values)
      = (t, cfgResponse (cfgWrite tag table index mask values) st []) := by
    simp only [State.execute, cfgWrite_mask, cfgWrite_body, List.getD_cons_zero, List.getD_cons_succ,
      List.drop_succ_cons, List.drop_zero, he]
    rfl
  exact request_ready h (cfgWrite_wf hv ..) hexec

/-- R185: a read that finds the unit ready is answered with its status and its record. -/
theorem request_read {s t : State} {tag : BitVec 4} {table index : Byte} {st : CfgStatus} {record : List Byte}
    (h : s.ConfigReady) (he : s.executeRead table.toNat index.toNat = (t, st, record)) :
    s.request (cfgRead tag table index) = .next (s.ends (t.answered tag table index st record)) := by
  have hexec : s.execute (cfgRead tag table index) = (t, cfgResponse (cfgRead tag table index) st record) := by
    simp only [State.execute, cfgRead, List.getD_cons_zero, List.getD_cons_succ, he]
  exact request_ready h rfl hexec

/-! ## The indexes of the wake unit's tables -/

theorem toNat_ofNat_source (n : SourceId) : (BitVec.ofNat 8 n.val).toNat = n.val := by
  rw [BitVec.toNat_ofNat]
  omega

theorem recordIndex_val {k : Nat} (n : Fin k) : recordIndex k n.val = some n := dif_pos n.isLt

theorem indexInRange_source {table : Nat} (h : tableRange table = (0, 16)) (n : SourceId) :
    indexInRange table n.val = true := by
  simp [indexInRange, h]

end Sys2Proof.Machine
end

section
/-! # The tables of the wake unit

A write of table 11 clears a capture record; one of table 10 replaces a record of W1 to W15, and leaves that of W0. -/

namespace Sys2Proof.Machine

open Sys2Proof

/-! ## Capture records (table 11) -/

/-- R116: a write to a capture record clears it, whatever the mask selects. -/
theorem executeWrite_capture (s : State) (n : SourceId) (mask : BitVec 16) (values : List Byte) :
    s.executeWrite 11 n.val mask values = (s.clearCaptureRecord n, .ok) := by
  simp [State.executeWrite, indexInRange_source (table := 11) rfl n, readOnlyTable, recordIndex_val, accept]

theorem boolCode_byte (b : Bool) : BitVec.ofNat 8 (boolCode b) = if b then 1 else 0 := by
  cases b <;> rfl

theorem fieldBytes_one (v : Nat) : fieldBytes 1 v = [BitVec.ofNat 8 v] := by
  simp [fieldBytes]

/-- R185: the bytes of a capture record. -/
theorem captureRecord_bytes (c : CaptureRecord) :
    recordBytes [ro 1, ro 1, ro 1, ro 2, ro 1, ro 1] c.fields
      = [if c.captured then 1 else 0, BitVec.ofNat 8 c.count, if c.overwritten then 1 else 0]
        ++ fieldBytes 2 c.milli.toNat
        ++ [match c.platform with | none => 0xFF | some p => BitVec.ofNat 8 p.code, BitVec.ofNat 8 c.effect.code] := by
  obtain ⟨captured, count, overwritten, milli, platform, effect⟩ := c
  cases platform <;> simp [recordBytes, CaptureRecord.fields, ro, fieldBytes_one, boolCode_byte]

/-- R185: a read of table 11 changes nothing. -/
theorem executeRead_capture (s : State) (n : SourceId) :
    s.executeRead 11 n.val
      = (s, .ok, recordBytes [ro 1, ro 1, ro 1, ro 2, ro 1, ro 1] (s.captures.get n).fields) := by
  simp [State.executeRead, indexInRange_source (table := 11) rfl n, State.afterRead, State.readBytes, tableLayout,
    State.recordFields, recordIndex_val]

/-- R110: the capture of an arrival. -/
theorem capture_get_self (s : State) (n : SourceId) (e : CaptureEffect) :
    (s.capture n e).captures.get n = (s.captures.get n).arrive s.milli s.platform e :=
  get_set_self _ _ _

theorem capture_get_of_ne (s : State) {n m : SourceId} (h : m ≠ n) (e : CaptureEffect) :
    (s.capture n e).captures.get m = s.captures.get m :=
  get_set_of_ne _ _ h

theorem capture_notices (s : State) (n : SourceId) (e : CaptureEffect) :
    (s.capture n e).notices
      = s.notices.raise (if (s.captures.get n).captured then .captureOverwrite else .wakeCaptured) := rfl

theorem clearCaptureRecord_get (s : State) (n : SourceId) : (s.clearCaptureRecord n).captures.get n = clearCapture :=
  get_set_self _ _ _

end Sys2Proof.Machine

open Sys2Proof Sys2Proof.Machine in
/-- Settles O52: the write asks for no field, so every mask clears; the arrival after it finds nothing captured. -/
theorem captureRecordIsCleared : Obligations.CaptureRecordIsCleared := by
  intro tag n mask values s h clear cleared
  have hindex := toNat_ofNat_source n
  have hclear : cleared = s.clearCaptureRecord n := rfl
  refine ⟨fun hv => ?write, ?read, fun e => ?arrival⟩
  case write =>
    refine request_write h hv ?_
    rw [hindex, hclear]
    exact executeWrite_capture s n mask values
  case read =>
    refine request_read h ?_
    rw [hindex]
    exact (executeRead_capture s n).trans (congrArg (fun record => (s, CfgStatus.ok, record)) (captureRecord_bytes _))
  case arrival =>
    rw [hclear, capture_get_self, capture_notices, clearCaptureRecord_get]
    exact ⟨rfl, rfl⟩

namespace Sys2Proof.Machine

open Sys2Proof

/-! ## The wake table (table 10) -/

/-- R184: a write that selects every field leaves the values it carries. -/
theorem mergeFields_all {old new : List Nat} (h : old.length = new.length) : mergeFields old (new.map some) = new := by
  induction old generalizing new with
  | nil =>
    cases new with
    | nil => rfl
    | cons v new => simp at h
  | cons u old ih =>
    cases new with
    | nil => simp at h
    | cons v new =>
      have htail : old.length = new.length := by simpa using h
      simp [mergeFields, ih htail]

theorem boolCode_lt (b : Bool) : boolCode b < 256 := by
  cases b <;> decide

theorem bindingCode_lt (b : Binding) : b.code < 256 := by
  cases b <;> decide

theorem optDomainCode_lt (d : Option DomainId) : optDomainCode d < 256 := by
  cases d with
  | none => decide
  | some d => exact lt_trans d.isLt (by decide)

@[simp] theorem boolOf_boolCode (b : Bool) : boolOf (boolCode b) = some b := by
  cases b <;> rfl

@[simp] theorem bindingOf_code (b : Binding) : bindingOf b.code = some b := by
  cases b <;> rfl

@[simp] theorem optDomainOf_code (d : Option DomainId) : optDomainOf (optDomainCode d) = some d := by
  cases d with
  | none => rfl
  | some d => exact dif_pos d.isLt

/-- R184: a mask of the five fields takes a byte for each. -/
theorem selection_wake (a b c d e : Byte) :
    selection 10 0x1F [a, b, c, d, e] = some ([a.toNat, b.toNat, c.toNat, d.toNat, e.toNat].map some) := by
  simp [selection, tableLayout, selectFields, rw, bytesValue]

theorem toNat_ofNat_of_lt {v : Nat} (h : v < 256) : (BitVec.ofNat 8 v).toNat = v :=
  Nat.mod_eq_of_lt h

/-- R103: a wake-table record fits its five bytes. -/
theorem selection_fields (w : WakeRecord) :
    selection 10 0x1F (w.fields.map (BitVec.ofNat 8)) = some (w.fields.map some) := by
  have harm : w.arm.toNat < 256 := lt_trans w.arm.isLt (by decide)
  simp only [WakeRecord.fields, List.map_cons, List.map_nil, selection_wake, toNat_ofNat_of_lt (boolCode_lt _),
    toNat_ofNat_of_lt (bindingCode_lt _), toNat_ofNat_of_lt (optDomainCode_lt _), toNat_ofNat_of_lt harm]

/-- R104: the codes of a record of W1 to W15 spell it, save that BUTTON is no binding of theirs. -/
theorem wakeRecordOf_fields (w : WakeRecord) :
    wakeRecordOf w.fields = if w.binding = .button then none else some w := by
  have harm : w.arm.toNat < 16 := w.arm.isLt
  simp [wakeRecordOf, WakeRecord.fields, harm]

theorem wakeFields_injective {w v : WakeRecord} (h : w.fields = v.fields) : w = v := by
  simp only [WakeRecord.fields, List.cons.injEq, and_true] at h
  obtain ⟨hen, hbind, harm, habort, hneeds⟩ := h
  have hen' := congrArg boolOf hen
  have hbind' := congrArg bindingOf hbind
  have habort' := congrArg boolOf habort
  have hneeds' := congrArg optDomainOf hneeds
  simp only [boolOf_boolCode, bindingOf_code, optDomainOf_code, Option.some.injEq] at hen' hbind' habort' hneeds'
  cases w
  cases v
  simp_all [BitVec.toNat_inj]

theorem valuesFit_fields (w : WakeRecord) : valuesFit (w.fields.map (BitVec.ofNat 8)) = true := rfl

theorem executeWrite_wake {mask : BitVec 16} {values : List Byte} {sel : List (Option Nat)} (hmask : mask ≠ 0)
    (hsel : selection 10 mask values = some sel) (s : State) (n : SourceId) :
    s.executeWrite 10 n.val mask values = s.writeWake n sel := by
  simp only [State.executeWrite, indexInRange_source (table := 10) rfl n, hsel, if_neg hmask, State.writeTable,
    recordIndex_val]
  rfl

/-- R103: a whole record written to a source other than W0. -/
theorem writeWake_other (s : State) {n : SourceId} (hn : n ≠ 0) (w : WakeRecord) :
    s.writeWake n (w.fields.map some)
      = if w.binding = .button then (s, .badValue) else ({ s with wakes := s.wakes.set n w }, .ok) := by
  unfold State.writeWake
  rw [if_neg hn, mergeFields_all (by rfl), wakeRecordOf_fields]
  by_cases hb : w.binding = .button
  · rw [if_pos hb, if_pos hb]
    rfl
  · rw [if_neg hb, if_neg hb]
    rfl

/-- R103: a whole record written to W0. -/
theorem writeWake_button (s : State) (w : WakeRecord) :
    s.writeWake 0 (w.fields.map some) = (s, if w = wakeRecord0 then .ok else .badValue) := by
  have hsame : w.fields = wakeRecord0.fields ↔ w = wakeRecord0 := ⟨wakeFields_injective, congrArg _⟩
  unfold State.writeWake
  rw [if_pos rfl, mergeFields_all (by rfl)]
  by_cases h : w = wakeRecord0
  · rw [if_pos (hsame.mpr h), if_pos h]
    rfl
  · rw [if_neg (mt hsame.mp h), if_neg h]
    rfl

/-! ## The record of W0 under a request -/

theorem exec_request {i : Instr} {f : Frame} (h : requestOf i = some f) (s : State) : exec i s = s.request f := by
  cases i <;> cases h <;> rfl

theorem chooseFrame_wakes (s : State) (p : Port) : (s.chooseFrame p).wakes = s.wakes := by
  obtain e | ⟨q, f, rest, -, -, -, -, e⟩ := chooseFrame_cases s p
  · rw [e]
  · rw [e, State.setPort_wakes, State.setQueue_wakes]

theorem chooseBoth_wakes (s : State) : s.chooseBoth.wakes = s.wakes := by
  rw [State.chooseBoth, chooseFrame_wakes, chooseFrame_wakes]

theorem queueNote_wakes (s : State) : s.queueNote.wakes = s.wakes := State.enqueue_wakes s _ _

theorem endEvent_wakes (s : State) (owed : Bool) : (s.endEvent owed).wakes = s.wakes := by
  unfold State.endEvent
  split
  · rw [chooseBoth_wakes, queueNote_wakes, chooseBoth_wakes]
  · exact chooseBoth_wakes s

theorem answered_wakes (s : State) (tag : BitVec 4) (table index : Byte) (st : CfgStatus) (record : List Byte) :
    (s.answered tag table index st record).wakes = s.wakes := by
  unfold State.answered
  split <;> rfl

/-- R182: the response that an execution builds is one to its request. -/
theorem execute_response (s : State) (f : Frame) : ∃ st record, (s.execute f).2 = cfgResponse f st record := by
  unfold State.execute
  dsimp only
  split
  · exact ⟨_, _, rfl⟩
  all_goals exact ⟨_, _, rfl⟩

/-- R149, R188: a malformed request is counted at an UP port. -/
theorem request_malformed {s : State} {f : Frame} (h : s.HeadsEmpty) (hf : f.wf = false) :
    s.request f = .next (s.ends (if s.up.linkUp then s.linkError .up else s)) := by
  have hoffer : s.offerRequest f = (if s.up.linkUp then s.linkError .up else s, []) := by
    simp [State.offerRequest, hf]
  rw [State.request, hoffer]
  refine event_comesTo (comesTo_nil ?_)
  split <;> exact h

/-- R103: no request that finds the unit ready changes the record of W0. -/
theorem request_keeps_button {s t : State} {f : Frame} (h : s.ConfigReady) (hb : s.ButtonSourceFixed)
    (ht : s.request f = .next t) : t.ButtonSourceFixed := by
  have ends_fixed {u : State} (hu : u.wakes.get 0 = s.wakes.get 0) : (s.ends u).ButtonSourceFixed := by
    rw [State.ButtonSourceFixed, State.ends, endEvent_wakes, hu]
    exact hb
  cases hf : f.wf with
  | false =>
    rw [request_malformed h.1 hf] at ht
    cases ht
    refine ends_fixed ?_
    split
    · rw [State.linkError_wakes]
    · rfl
  | true =>
    obtain ⟨st, record, he⟩ := execute_response s f
    rw [request_ready h hf (Prod.ext rfl he)] at ht
    cases ht
    refine ends_fixed ?_
    rw [answered_wakes]
    exact (State.Spares.execute s f).source

/-! ## Arming (R105) -/

/-- R103, R105: W0 is armed for every rest state, and needs no domain. -/
theorem armed_button {s : State} (h : s.ButtonSourceFixed) {rest : PlatformState} {b : Nat} (hb : armBit rest = some b) :
    s.armed 0 rest = true := by
  have hbit : wakeRecord0.arm.getLsbD b = true := by
    cases rest <;> cases hb <;> rfl
  have hw : s.wakes.get 0 = wakeRecord0 := h
  simp only [State.armed, hw, hb, hbit]
  rfl

/-- Table 1-2: an entry plan's completion enters a rest state with an arm bit. -/
theorem armBit_entryRest (slot : Option SlotId) : ∃ b, armBit (entryRest slot) = some b := by
  unfold entryRest
  split <;> exact ⟨_, rfl⟩

/-- R111, R112: in a rest state an armed source wakes. -/
theorem judgeArrival_rest {s : State} {b : Nat} (hb : armBit s.platform = some b) (n : SourceId) :
    s.judgeArrival n = if s.armed n s.platform then .woke else .none := by
  cases hp : s.platform
  case suspended | hibernated | softOff | tripped => simp only [State.judgeArrival, State.testedRest, hp]
  all_goals simp [hp, armBit] at hb

/-- R111, R113: in CHECKING and PARKED a source armed for the entry's rest state aborts, if its record lets it. -/
theorem judgeArrival_checking {s : State} (h : s.platform = .checking ∨ s.platform = .parked) (n : SourceId) :
    s.judgeArrival n
      = if (s.wakes.get n).abortFlag && s.armed n (entryRest s.ctx.slot) then .aborted else .none := by
  obtain h | h := h <;> simp [State.judgeArrival, State.testedRest, h]

end Sys2Proof.Machine

open Sys2Proof Sys2Proof.Machine in
/-- Settles O51: the five fields come back from their bytes, so a whole record replaces that of its source; W0 takes none
but its own, and no other request reaches it. -/
theorem wakeTableWrites : Obligations.WakeTableWrites := by
  intro tag s h
  have write {t : State} {st : CfgStatus} (n : SourceId) (w : WakeRecord)
      (hw : s.writeWake n (w.fields.map some) = (t, st)) :
      exec (.wakeTableWrite tag (BitVec.ofNat 8 n.val) 0x1F (w.fields.map (BitVec.ofNat 8))) s
        = .next (s.ends (t.answered tag 10 (BitVec.ofNat 8 n.val) st [])) := by
    refine request_write h (valuesFit_fields w) ?_
    rw [toNat_ofNat_source, ← hw]
    exact executeWrite_wake (by decide) (selection_fields w) s n
  refine ⟨fun n w hn => ⟨fun hb => ?other, fun hb => ?binding⟩, fun w => ⟨fun hw => ?same, fun hw => ?changed⟩,
    fun hfixed => ⟨fun i f t hi ht => ?requests, fun hp => ?wakes, fun hp => ?aborts⟩⟩
  case other => exact write n w ((writeWake_other s hn w).trans (if_neg hb))
  case binding => exact write n w ((writeWake_other s hn w).trans (if_pos hb))
  case same => exact write 0 w ((writeWake_button s w).trans (congrArg _ (if_pos hw)))
  case changed => exact write 0 w ((writeWake_button s w).trans (congrArg _ (if_neg hw)))
  case requests =>
    rw [exec_request hi] at ht
    exact request_keeps_button h hfixed ht
  case wakes =>
    obtain ⟨b, hb⟩ : ∃ b, armBit s.platform = some b := by
      obtain hp | hp | hp | hp := hp <;> exact ⟨_, congrArg armBit hp⟩
    rw [judgeArrival_rest hb, if_pos (armed_button hfixed hb)]
  case aborts =>
    obtain ⟨b, hb⟩ := armBit_entryRest s.ctx.slot
    have hflag : (s.wakes.get 0).abortFlag = true := congrArg WakeRecord.abortFlag hfixed
    rw [judgeArrival_checking hp, armed_button hfixed hb, hflag]
    rfl
end

section
/-! # Arrivals of wake sources

An arrival is captured with the effect that the judgement gives it, and the judgement follows the record's arming and the
platform state (Table 6-1). -/

namespace Sys2Proof.Machine

open Sys2Proof

/-! ## The judgement -/

/-- R105: the arm mask has the bit, and the domain that the source needs is ON. -/
def State.ArmedBy (s : State) (n : SourceId) (b : Nat) : Prop :=
  (s.wakes.get n).arm.getLsbD b = true ∧ ∀ d, (s.wakes.get n).needs = some d → (s.dom d).state = .on

theorem armed_iff {s : State} {n : SourceId} {rest : PlatformState} {b : Nat} (hen : (s.wakes.get n).enabled = true)
    (hb : armBit rest = some b) : s.armed n rest = true ↔ s.ArmedBy n b := by
  cases hneeds : (s.wakes.get n).needs <;> simp [State.armed, State.ArmedBy, State.isOn, hen, hb, hneeds]

theorem not_armed_iff {s : State} {n : SourceId} {rest : PlatformState} {b : Nat}
    (hen : (s.wakes.get n).enabled = true) (hb : armBit rest = some b) : s.armed n rest = false ↔ ¬ s.ArmedBy n b := by
  rw [← armed_iff hen hb, Bool.not_eq_true]

/-- Table 11-4: the arm bit of each rest state. -/
theorem armBit_platform {p : PlatformState} {b : Nat}
    (h : p = .suspended ∧ b = 0 ∨ p = .hibernated ∧ b = 1 ∨ p = .softOff ∧ b = 2 ∨ p = .tripped ∧ b = 3) :
    armBit p = some b := by
  obtain ⟨rfl, rfl⟩ | ⟨rfl, rfl⟩ | ⟨rfl, rfl⟩ | ⟨rfl, rfl⟩ := h <;> rfl

/-- R105: the arm bit against which an entry by this slot tests. -/
theorem armBit_slot {slot : Option SlotId} {b : Nat}
    (h : slot = some 0 ∧ b = 0 ∨ slot = some 1 ∧ b = 1 ∨ slot = some 2 ∧ b = 2) :
    armBit (entryRest slot) = some b := by
  obtain ⟨rfl, rfl⟩ | ⟨rfl, rfl⟩ | ⟨rfl, rfl⟩ := h <;> rfl

/-- R111, R114: in COMMITTING the first armed source is held. -/
theorem judgeArrival_committing {s : State} (h : s.platform = .committing) (n : SourceId) :
    s.judgeArrival n = if s.armed n (entryRest s.ctx.slot) && s.pendingWake.isNone then .pended else .none := by
  simp [State.judgeArrival, State.testedRest, h]

/-- R111, R115: in these states no arrival has an effect. -/
theorem judgeArrival_busy {s : State}
    (h : s.platform = .run ∨ s.platform = .waking ∨ s.platform = .returning ∨ s.platform = .tripping) (n : SourceId) :
    s.judgeArrival n = .none := by
  obtain h | h | h | h := h <;> simp [State.judgeArrival, h]

section Judged

variable {s : State} {n : SourceId}

/-- R110: an arrival of an enabled source, by the effect it is judged to have. -/
theorem arrival_of_judge {e : CaptureEffect} (hen : (s.wakes.get n).enabled = true) (hj : s.judgeArrival n = e) :
    s.arrival n = (s.capture n e).handOff n e := by
  subst hj
  exact if_pos hen

theorem arrival_none (hen : (s.wakes.get n).enabled = true) (hj : s.judgeArrival n = .none) :
    s.arrival n = (s.capture n .none, []) := arrival_of_judge hen hj

theorem arrival_woke (hen : (s.wakes.get n).enabled = true) (hj : s.judgeArrival n = .woke) :
    s.arrival n = (s.capture n .woke).startExit (.source n) := arrival_of_judge hen hj

theorem arrival_aborted (hen : (s.wakes.get n).enabled = true) (hj : s.judgeArrival n = .aborted) :
    s.arrival n = (s.capture n .aborted).abort (.wake n) := arrival_of_judge hen hj

theorem arrival_pended (hen : (s.wakes.get n).enabled = true) (hj : s.judgeArrival n = .pended) :
    s.arrival n = ({ s.capture n .pended with pendingWake := some (.source n) }, []) := arrival_of_judge hen hj

end Judged

theorem arrival_disabled {s : State} {n : SourceId} (h : (s.wakes.get n).enabled = false) : s.arrival n = (s, []) :=
  if_neg (by simp [h])

end Sys2Proof.Machine

open Sys2Proof Sys2Proof.Machine in
/-- Settles O40: the judgement's three tests, each by the arm bit of the state tested, and what it hands over. -/
theorem arrivalByPlatformState : Obligations.ArrivalByPlatformState := by
  intro n s c record captured ready
  have hready (b : Nat) : ready b ↔ s.ArmedBy n b := Iff.rfl
  refine ⟨arrival_disabled, fun hen => ?_⟩
  have armed {rest : PlatformState} {b : Nat} (hb : armBit rest = some b) (hr : ready b) : s.armed n rest = true :=
    (armed_iff hen hb).mpr hr
  have unarmed {rest : PlatformState} {b : Nat} (hb : armBit rest = some b) (hr : ¬ ready b) : s.armed n rest = false :=
    (not_armed_iff hen hb).mpr hr
  refine ⟨fun b hp => ?rest, fun b hp hslot => ?checking, fun b hp hslot => ?committing, fun hp => ?busy⟩
  case rest =>
    have hb := armBit_platform hp
    refine ⟨fun hr => arrival_woke hen ?_, fun hr => arrival_none hen ?_⟩
    · rw [judgeArrival_rest hb, armed hb hr]
      rfl
    · rw [judgeArrival_rest hb, unarmed hb hr]
      rfl
  case checking =>
    have hb := armBit_slot hslot
    refine ⟨fun hr hflag => arrival_aborted hen ?_, fun hnot => arrival_none hen ?_⟩
    · rw [judgeArrival_checking hp, armed hb hr, hflag]
      rfl
    · rw [judgeArrival_checking hp]
      obtain hr | hflag := hnot
      · rw [unarmed hb hr, Bool.and_false]
        rfl
      · rw [hflag]
        rfl
  case committing =>
    have hb := armBit_slot hslot
    refine ⟨fun hr hnone => arrival_pended hen ?_, fun hnot => arrival_none hen ?_⟩
    · rw [judgeArrival_committing hp, armed hb hr, hnone]
      rfl
    · rw [judgeArrival_committing hp]
      obtain hr | hheld := hnot
      · rw [unarmed hb hr]
        rfl
      · rw [Option.isNone_eq_false_iff.mpr (Option.isSome_iff_ne_none.mpr hheld), Bool.and_false]
        rfl
  case busy => exact arrival_none hen (judgeArrival_busy hp n)

namespace Sys2Proof.Machine

open Sys2Proof

/-! ## The commands of a wake line -/

theorem exec_wakeLineAssertion (l : WakeLine) (s : State) :
    exec (.wakeLineAssertion l) s = s.event (s.lineRises l) := rfl

theorem exec_wakeLineFallingEdge (l : WakeLine) (s : State) :
    exec (.wakeLineFallingEdge l) s = .next (s.setLine l false) := rfl

theorem lineRises_high {s : State} {l : WakeLine} (h : s.line l = true) : s.lineRises l = (s, []) := if_pos h

theorem lineRises_low {s : State} {l : WakeLine} (h : s.line l = false) :
    s.lineRises l = (s.setLine l true).arrivals (s.boundTo l) := if_neg (by simp [h])

/-- R106: what an assertion edge comes to, by the arrivals of the line's sources. -/
theorem assertion_comesTo {s u : State} {l : WakeLine} (h : s.line l = false)
    (hu : comesTo ((s.setLine l true).arrivals (s.boundTo l)) u) : exec (.wakeLineAssertion l) s = .next (s.ends u) := by
  rw [exec_wakeLineAssertion, lineRises_low h]
  exact event_comesTo hu

/-! ## A line set high -/

section Line

variable (s : State) (l : WakeLine) (b : Bool)

theorem setLine_shape : s.setLine l b = { s with wakeA := (s.setLine l b).wakeA, wakeB := (s.setLine l b).wakeB } := by
  cases l <;> rfl

@[simp] theorem setLine_wakes : (s.setLine l b).wakes = s.wakes := by rw [setLine_shape]

@[simp] theorem setLine_up : (s.setLine l b).up = s.up := by rw [setLine_shape]

@[simp] theorem setLine_dn : (s.setLine l b).dn = s.dn := by rw [setLine_shape]

@[simp] theorem line_setLine : (s.setLine l b).line l = b := by
  cases l <;> rfl

theorem judgeArrival_setLine (n : SourceId) : (s.setLine l b).judgeArrival n = s.judgeArrival n := by
  rw [setLine_shape]
  rfl

end Line

/-- R106: the one source bound to a line. -/
theorem boundTo_sole {s : State} {l : WakeLine} {n : SourceId} (hn : (s.wakes.get n).binding = lineBinding l)
    (hother : ∀ m, m ≠ n → (s.wakes.get m).binding ≠ lineBinding l) : s.boundTo l = [n] := by
  have hbound : ∀ m ∈ List.finRange 16, ((s.wakes.get m).binding == lineBinding l) = (m == n) := fun m _ => by
    by_cases hm : m = n
    · simp [hm, hn]
    · simp [hm, hother m hm]
  rw [State.boundTo, List.filter_congr hbound, List.filter_beq, List.count_eq_one_of_mem (List.nodup_finRange 16)
    (List.mem_finRange n)]
  rfl

/-! ## An exit plan that starts -/

/-- R1, R127: a change of the platform state touches it, the indicator and the notices alone. -/
theorem enterPlatform_shape (s : State) (p : PlatformState) :
    s.enterPlatform p
      = { s with platform := p, indicator := (s.enterPlatform p).indicator, notices := (s.enterPlatform p).notices } := by
  unfold State.enterPlatform
  split
  · rename_i h
    rw [h]
  · rfl

/-- R3, R18, R23: the state in which an exit plan has entered WAKING, before its first step. -/
def State.exiting (s : State) (slot : SlotId) (c : WakeCause) : State :=
  State.enterPlatform { s.setUpPlan slot .exit none with wakeCause := some c } .waking

/-- R3: step 0 starts, or waits for the pinned domains that are RISING (R82). -/
theorem startExit_eq {s : State} {slot : SlotId} (h : exitSlot s.platform = some slot) (c : WakeCause) :
    s.startExit c
      = if s.pinnedRising then ((s.exiting slot c).setWait .pinned, []) else (s.exiting slot c, [.start 0]) := by
  have hpinned : (s.exiting slot c).pinnedRising = s.pinnedRising := by
    simp [State.pinnedRising, State.cfg, State.dom, State.exiting, State.setUpPlan]
  rw [← hpinned]
  simp only [State.startExit, h]
  rfl

/-- R3, R23: the start of an exit plan sets the context up. -/
theorem exiting_shape (s : State) (slot : SlotId) (c : WakeCause) :
    s.exiting slot c
      = { s with
          platform := .waking, wakeCause := some c,
          ctx := { releasedContext with
            slot := some slot, portion := .exit, retries := freshRetries (s.active.plans.get slot) },
          indicator := (s.exiting slot c).indicator, notices := (s.exiting slot c).notices } :=
  enterPlatform_shape _ _

theorem startExit_pinned {s : State} {slot : SlotId} (h : exitSlot s.platform = some slot)
    (hp : s.pinnedRising = true) (c : WakeCause) : s.startExit c = ((s.exiting slot c).setWait .pinned, []) := by
  rw [startExit_eq h, if_pos hp]

/-- R3, R18: an exit plan that starts is WAKING with its cause, and leaves the wake unit. -/
theorem startExit_waking {s : State} {slot : SlotId} (h : exitSlot s.platform = some slot) (c : WakeCause) :
    (s.startExit c).1.platform = .waking ∧ (s.startExit c).1.wakeCause = some c
      ∧ (s.startExit c).1.wakes = s.wakes := by
  rw [startExit_eq h, exiting_shape]
  split <;> exact ⟨rfl, rfl, rfl⟩

/-- R112: an arrival that wakes finds a rest state, from which an exit plan starts. -/
theorem exitSlot_of_woke {s : State} {n : SourceId} (h : s.judgeArrival n = .woke) :
    ∃ slot, exitSlot s.platform = some slot := by
  cases hp : s.platform
  case suspended | hibernated | softOff | tripped => exact ⟨_, rfl⟩
  case committing =>
    rw [judgeArrival_committing hp] at h
    split at h <;> cases h
  case checking =>
    rw [judgeArrival_checking (.inl hp)] at h
    split at h <;> cases h
  case parked =>
    rw [judgeArrival_checking (.inr hp)] at h
    split at h <;> cases h
  all_goals simp [State.judgeArrival, hp] at h

end Sys2Proof.Machine

open Sys2Proof Sys2Proof.Machine in
/-- Settles O41: an edge is the arrivals of the sources bound to the line; the first that wakes leaves WAKING to the
others. -/
theorem wakeLineEdges : Obligations.WakeLineEdges := by
  intro l s
  refine ⟨exec_wakeLineFallingEdge l s, fun h hline => ?high, fun u => assertion_comesTo, fun n => rfl,
    fun n ns => ⟨rfl, rfl⟩, fun n m hne hn hm hj => ?second, fun h hline hnone => ?disabled,
    fun n h hline hbind hen hsole => ?sole⟩
  case high =>
    rw [exec_wakeLineAssertion, lineRises_high hline]
    exact event_comesTo (comesTo_nil h)
  case second =>
    obtain ⟨slot, hslot⟩ := exitSlot_of_woke hj
    have hfirst : s.arrival n = (s.capture n .woke).startExit (.source n) := arrival_woke hn hj
    obtain ⟨hplatform, hcause, hwakes⟩ := startExit_waking (s := s.capture n .woke) hslot (.source n)
    rw [← hfirst] at hplatform hcause hwakes
    have hsecond : (s.arrival n).1.arrival m = ((s.arrival n).1.capture m .none, []) :=
      arrival_none (hwakes ▸ hm) (judgeArrival_busy (.inr (.inl hplatform)) m)
    simp only [arrivals_cons, arrivals_nil, hsecond, List.append_nil, capture_get_self]
    exact ⟨trivial, hplatform, hcause, congrArg some hplatform, rfl⟩
  case disabled =>
    refine assertion_comesTo hline ?_
    rw [arrivals_disabled fun n hn => ?_]
    · exact comesTo_nil (headsEmpty_of_ports h (setLine_up ..) (setLine_dn ..))
    · rw [setLine_wakes]
      exact hnone n (by simpa [State.boundTo] using hn)
  case sole =>
    have hheads : (s.setLine l true).HeadsEmpty := headsEmpty_of_ports h (setLine_up ..) (setLine_dn ..)
    have hen' : ((s.setLine l true).wakes.get n).enabled = true := by rwa [setLine_wakes]
    have hjudge := judgeArrival_setLine s l true n
    have hedge {u : State} (ht : (s.setLine l true).arrival n = (u, [])) (hu : u.HeadsEmpty) :
        exec (.wakeLineAssertion l) s = .next (s.ends u) := by
      refine assertion_comesTo hline ?_
      rw [boundTo_sole hbind hsole, arrivals_cons, ht]
      exact comesTo_nil hu
    refine ⟨fun hj => hedge (arrival_none hen' (hjudge.trans hj)) hheads, fun slot hj hslot hpinned => ?_⟩
    have hplatform : ((s.setLine l true).capture n .woke).platform = s.platform := by cases l <;> rfl
    have hrising : ((s.setLine l true).capture n .woke).pinnedRising = true := by cases l <;> exact hpinned
    have harrival := (arrival_woke hen' (hjudge.trans hj)).trans
      (startExit_pinned (hplatform ▸ hslot) hrising (.source n))
    rw [exiting_shape] at harrival
    refine ⟨_, hedge harrival hheads, rfl, rfl, rfl, rfl, rfl, rfl, line_setLine s l true, ?_, ?_, fun m hm => ?_, ?_⟩
    · exact congrArg CaptureRecord.effect (capture_get_self ..)
    · exact (congrArg CaptureRecord.platform (capture_get_self ..)).trans (congrArg some hplatform)
    · refine (capture_get_of_ne _ hm _).trans ?_
      rw [setLine_shape]
    · cases l <;> exact ⟨rfl, rfl, rfl, rfl⟩
end

section
/-! # The power button

The hold's edges and expiries: what the unit tells the hub, the arrival of W0 that a recognized press is in every state
but RUN, and the trip that an override is in every state but SOFT_OFF. -/

namespace Sys2Proof.Machine

open Sys2Proof

/-! ## The commands of the button -/

theorem exec_pressEdge (s : State) : exec .pressEdge s = .next s.buttonFalls := rfl

theorem exec_release (s : State) : exec .release s = s.event (s.buttonRises, []) := rfl

theorem exec_debounceExpiry (s : State) : exec .debounceExpiry s = s.event s.recognize := rfl

theorem exec_overrideExpiry (s : State) : exec .overrideExpiry s = s.event s.overrideActs := rfl

/-! ## The frames to the hub (R123) -/

section Emit

variable {s : State}

theorem canEmit_iff : (s.up.linkUp && s.hasPlace .upOwn) = true ↔ s.up.linkUp = true ∧ s.queues.upOwn.length < 8 := by
  rw [Bool.and_eq_true, hasPlace_iff]
  rfl

/-- R123: with a place free in UP-OWN the frame is queued, and the mark follows its level. -/
theorem buttonEmit_placed (hup : s.up.linkUp = true) (hq : s.queues.upOwn.length < 8) (l : Level) :
    s.buttonEmit l
      = { s with
          button := { s.button with hubMark := l == .asserted }
          queues := { s.queues with upOwn := s.queues.upOwn ++ [ownSignal buttonSignal l] } } := by
  obtain ⟨hcan, e⟩ | ⟨hcan, -⟩ := buttonEmit_cases s l
  · obtain ⟨-, henq⟩ | ⟨hfull, -⟩ := enqueue_cases s .upOwn (ownSignal buttonSignal l)
    · rw [e, henq]
      rfl
    · simp [hfull] at hcan
  · rw [canEmit_iff.mpr ⟨hup, hq⟩] at hcan
    cases hcan

/-- R123, R154: without a place, or with UP DOWN, the frame is discarded and the mark is clear. -/
theorem buttonEmit_discarded (h : s.up.linkUp = false ∨ 8 ≤ s.queues.upOwn.length) (l : Level) :
    s.buttonEmit l
      = State.notify { s with
          button := { s.button with hubMark := false }
          up := { s.up with discards := min (s.up.discards + 1) 65535 } } .txDiscard := by
  obtain ⟨hcan, -⟩ | ⟨-, e⟩ := buttonEmit_cases s l
  · obtain ⟨hup, hq⟩ := canEmit_iff.mp hcan
    obtain hdown | hfull := h
    · simp [hup] at hdown
    · omega
  · exact e

end Emit

/-! ## The edges (R121, R124) -/

section Edges

variable {s : State}

theorem buttonFalls_low (h : s.button.low = true) : s.buttonFalls = s := if_pos h

theorem buttonFalls_idle (hl : s.button.low = false) (hi : s.button.hold = .idle) :
    s.buttonFalls = { s with button := { s.button with
      low := true, hold := .debouncing, pressTick := s.milli,
      debounceInForce := s.button.debounce, overrideInForce := s.button.override } } := by
  unfold State.buttonFalls
  rw [if_neg (by simp [hl]), if_pos hi]
  rfl

/-- R124: the state in which a hold has ended, before the hub is told. -/
def State.released (s : State) : State := { s with button := { s.button with low := false, hold := .idle } }

theorem buttonRises_high (h : s.button.low = false) : s.buttonRises = s := if_pos (by simp [h])

/-- R124: the end of a hold that the hub was not told of. -/
theorem buttonRises_untold (hl : s.button.low = true)
    (h : s.button.hold = .idle ∨ s.button.hold = .debouncing ∨ s.button.hubMark = false) :
    s.buttonRises = s.released := by
  unfold State.buttonRises
  rw [if_neg (by simp [hl])]
  cases hh : s.button.hold
  case idle | debouncing => rfl
  case held | overridden =>
    have hmark : s.button.hubMark = false := by simpa [hh] using h
    exact if_neg (by simp [hmark])

/-- R124: the hub is told of the end of a hold that it was told of. -/
theorem buttonRises_told (hl : s.button.low = true) (h : s.button.hold = .held ∨ s.button.hold = .overridden)
    (hmark : s.button.hubMark = true) : s.buttonRises = s.released.buttonEmit .deasserted := by
  unfold State.buttonRises
  rw [if_neg (by simp [hl])]
  obtain hh | hh := h <;> rw [hh] <;> exact if_pos hmark

end Edges

/-! ## The expiries (R122, R125) -/

section Expiries

variable {s : State}

theorem debounceDue_iff :
    s.debounceDue = true ↔
      s.button.hold = .debouncing ∧ s.button.debounceInForce ≤ (s.milli - s.button.pressTick).toNat := by
  rw [State.debounceDue, Bool.and_eq_true, beq_iff_eq]
  exact and_congr_right fun _ => decide_eq_true_iff

theorem overrideDue_iff :
    s.overrideDue = true ↔
      s.button.hold = .held ∧ s.button.overrideInForce ≤ (s.milli - s.button.pressTick).toNat := by
  rw [State.overrideDue, Bool.and_eq_true, beq_iff_eq]
  exact and_congr_right fun _ => decide_eq_true_iff

/-- R122: the state in which a press is recognized, before it has an effect. -/
def State.pressed (s : State) : State := { s with button := { s.button with hold := .held } }

/-- R122: a press recognized in RUN is the hub's. -/
theorem recognize_run (hd : s.debounceDue = true) (hp : s.platform = .run) :
    s.recognize = (s.pressed.buttonEmit .asserted, []) := by
  unfold State.recognize
  rw [if_neg (by simp [hd])]
  exact if_pos hp

/-- R122: a press recognized in another state is an arrival of W0. -/
theorem recognize_arrival (hd : s.debounceDue = true) (hp : s.platform ≠ .run) :
    s.recognize = (s.pressed, [.arrival 0]) := by
  unfold State.recognize
  rw [if_neg (by simp [hd])]
  exact if_neg hp

theorem recognize_early (hd : ¬ s.debounceDue = true) : s.recognize = (s, []) := if_pos (by simpa using hd)

/-- R125: the state in which an override acts, before the trip. -/
def State.overriding (s : State) : State := { s with button := { s.button with hold := .overridden } }

theorem overrideActs_softOff (hd : s.overrideDue = true) (hp : s.platform = .softOff) :
    s.overrideActs = (s.overriding, []) := by
  unfold State.overrideActs
  rw [if_neg (by simp [hd]), if_pos hp]
  rfl

/-- R125: an override outside SOFT_OFF is a trip cause. -/
theorem overrideActs_trips (hd : s.overrideDue = true) (hp : s.platform ≠ .softOff) :
    s.overrideActs = (s.overriding, [.tripCause .override]) := by
  unfold State.overrideActs
  rw [if_neg (by simp [hd]), if_neg hp]
  rfl

theorem overrideActs_early (hd : ¬ s.overrideDue = true) : s.overrideActs = (s, []) := if_pos (by simpa using hd)

/-- R54, R57: in TRIPPED and TRIPPING an OVERRIDE is recorded or counted, and leaves the trip target. -/
theorem takeTrip_override_counted (hp : s.platform = .tripped ∨ s.platform = .tripping) :
    s.takeTrip .override = ({ s with trip := s.trip.add .override }, []) := by
  obtain ⟨-, e⟩ | ⟨-, e⟩ | ⟨hp1, hp2, -⟩ := takeTrip_cases s .override
  · rw [e, retarget_eq, if_pos rfl]
  · exact e
  · exact absurd hp (not_or.mpr ⟨hp2, hp1⟩)

end Expiries

/-! ## What the events come to -/

section Events

variable {s u : State}

theorem release_ends (hu : s.buttonRises = u) (h : u.HeadsEmpty) : exec .release s = .next (s.ends u) := by
  rw [exec_release, hu]
  exact event_comesTo (comesTo_nil h)

/-- R122: a press that is recognized outside RUN, by what the arrival of W0 comes to. -/
theorem press_comesTo (hd : s.debounceDue = true) (hp : s.platform ≠ .run) (hu : comesTo (s.pressed.arrival 0) u) :
    exec .debounceExpiry s = .next (s.ends u) := by
  rw [exec_debounceExpiry, recognize_arrival hd hp]
  exact event_of_work rfl hu

/-- R125: an override outside SOFT_OFF, by what the trip cause comes to. -/
theorem override_comesTo (hd : s.overrideDue = true) (hp : s.platform ≠ .softOff)
    (hu : comesTo (s.overriding.takeTrip .override) u) : exec .overrideExpiry s = .next (s.ends u) := by
  rw [exec_overrideExpiry, overrideActs_trips hd hp]
  exact event_of_work rfl hu

end Events

/-! ## The arrival of a recognized press (R103, R111 to R115) -/

section Press

variable {s : State}

theorem button_enabled (hfixed : s.ButtonSourceFixed) : (s.wakes.get 0).enabled = true :=
  congrArg WakeRecord.enabled hfixed

theorem button_aborts (hfixed : s.ButtonSourceFixed) : (s.wakes.get 0).abortFlag = true :=
  congrArg WakeRecord.abortFlag hfixed

/-- R112: W0 wakes from every rest state. -/
theorem arrival_button_rest (hfixed : s.ButtonSourceFixed) {b : Nat} (hb : armBit s.platform = some b) :
    s.arrival 0 = (s.capture 0 .woke).startExit (.source 0) := by
  refine arrival_woke (button_enabled hfixed) ?_
  rw [judgeArrival_rest hb, if_pos (armed_button hfixed hb)]

/-- R113: W0 aborts an entry in its check portion. -/
theorem arrival_button_checking (hfixed : s.ButtonSourceFixed) (hp : s.platform = .checking ∨ s.platform = .parked) :
    s.arrival 0 = (s.capture 0 .aborted).abort (.wake 0) := by
  obtain ⟨b, hb⟩ := armBit_entryRest s.ctx.slot
  refine arrival_aborted (button_enabled hfixed) ?_
  rw [judgeArrival_checking hp, armed_button hfixed hb, button_aborts hfixed]
  rfl

/-- R114: in COMMITTING W0 is held where no wake is. -/
theorem judgeArrival_button_committing (hfixed : s.ButtonSourceFixed) (hp : s.platform = .committing) :
    s.judgeArrival 0 = if s.pendingWake = none then .pended else .none := by
  obtain ⟨b, hb⟩ := armBit_entryRest s.ctx.slot
  rw [judgeArrival_committing hp, armed_button hfixed hb, Bool.true_and]
  simp only [Option.isNone_iff_eq_none]

end Press

end Sys2Proof.Machine

open Sys2Proof Sys2Proof.Machine in
/-- Settles O42: the edges by the hold and the mark, a press by the platform state it is recognized in, an override by
the state it trips. -/
theorem buttonEvents : Obligations.ButtonEvents := by
  intro s b frame
  refine ⟨fun hl hi => ?falls, fun hl => ?low, fun h => ⟨fun hl => ?high, fun hl hh => ?untold,
    fun hl hh hmark hup hq => ?told, fun hl hh hmark hq => ?lost, fun hh ht => ?press, fun hn => ?noPress,
    fun hh ht hp => ?softOff, fun hh ht hp => ?counted, fun hh ht hp u hu => ?trips,
    fun t hh ht hp hp1 hp2 hs hk hl hb => ?delays, fun hn => ?noOverride⟩⟩
  case falls => exact congrArg _ (buttonFalls_idle hl hi)
  case low => exact congrArg _ (buttonFalls_low hl)
  case high => exact release_ends (buttonRises_high hl) h
  case untold => exact release_ends (buttonRises_untold hl hh) h
  case told =>
    have hemit := buttonEmit_placed (s := s.released) hup hq .deasserted
    exact release_ends ((buttonRises_told hl hh hmark).trans hemit) h
  case lost =>
    have hemit := buttonEmit_discarded (s := s.released) hq .deasserted
    exact release_ends ((buttonRises_told hl hh hmark).trans hemit) h
  case press =>
    have hd : s.debounceDue = true := debounceDue_iff.mpr ⟨hh, ht⟩
    have told {u : State} (hp : s.platform = .run) (hu : s.pressed.buttonEmit .asserted = u) (hheads : u.HeadsEmpty) :
        exec .debounceExpiry s = .next (s.ends u) := by
      rw [exec_debounceExpiry, recognize_run hd hp, hu]
      exact event_comesTo (comesTo_nil hheads)
    have arrives {u : State} (hp : s.platform ≠ .run) (ha : s.pressed.arrival 0 = (u, [])) (hheads : u.HeadsEmpty) :
        exec .debounceExpiry s = .next (s.ends u) := by
      refine press_comesTo hd hp ?_
      rw [ha]
      exact comesTo_nil hheads
    intro pressed
    refine ⟨fun hp hup hq => told hp (buttonEmit_placed (s := pressed) hup hq _) h,
      fun hp hq => told hp (buttonEmit_discarded (s := pressed) hq _) h, fun hp u hu => press_comesTo hd hp hu,
      fun hfixed => ⟨fun hp => ?busy, fun hp => ?rest, fun hp _ => arrival_button_checking hfixed hp,
        fun hp _ => ?committing⟩⟩
    case busy =>
      have hrun : s.platform ≠ .run := by
        obtain hp | hp | hp := hp <;> simp [hp]
      exact arrives hrun (arrival_none (button_enabled hfixed) (judgeArrival_busy (.inr hp) 0)) h
    case rest =>
      obtain ⟨b, hb⟩ : ∃ b, armBit s.platform = some b := by
        obtain hp | hp | hp | hp := hp <;> exact ⟨_, congrArg armBit hp⟩
      have hrun : s.platform ≠ .run := by
        obtain hp | hp | hp | hp := hp <;> simp [hp]
      have hwoke := arrival_button_rest (s := pressed) hfixed hb
      obtain ⟨slot, hslot⟩ : ∃ slot, exitSlot s.platform = some slot := by
        obtain hp | hp | hp | hp := hp <;> exact ⟨_, congrArg exitSlot hp⟩
      refine ⟨hwoke, fun hpinned => ?_⟩
      have hwait := startExit_pinned (s := pressed.capture 0 .woke) hslot hpinned (.source 0)
      rw [exiting_shape] at hwait
      rw [hwait] at hwoke ⊢
      exact arrives hrun hwoke h
    case committing =>
      have hrun : s.platform ≠ .run := by simp [hp]
      have hjudge := judgeArrival_button_committing (s := pressed) hfixed hp
      refine ⟨fun hnone => ?_, fun hheld => ?_⟩
      · exact arrives hrun (arrival_pended (button_enabled hfixed) (hjudge.trans (if_pos hnone))) h
      · exact arrives hrun (arrival_none (button_enabled hfixed) (hjudge.trans (if_neg hheld))) h
  case noPress =>
    rw [exec_debounceExpiry, recognize_early]
    · exact event_comesTo (comesTo_nil h)
    · rw [debounceDue_iff]
      exact fun ⟨hh, ht⟩ => hn.elim (· hh) (not_lt.mpr ht)
  case softOff =>
    rw [exec_overrideExpiry, overrideActs_softOff (overrideDue_iff.mpr ⟨hh, ht⟩) hp]
    exact event_comesTo (comesTo_nil h)
  case counted =>
    have hsoft : s.platform ≠ .softOff := by
      obtain hp | hp := hp <;> simp [hp]
    refine override_comesTo (overrideDue_iff.mpr ⟨hh, ht⟩) hsoft ?_
    rw [takeTrip_override_counted (s := s.overriding) hp]
    exact comesTo_nil h
  case trips => exact override_comesTo (overrideDue_iff.mpr ⟨hh, ht⟩) hp hu
  case delays =>
    rw [exec_overrideExpiry, overrideActs_trips (overrideDue_iff.mpr ⟨hh, ht⟩) hp]
    refine ⟨_, event_comesTo (tripCause_delays (s := s.overriding) .override h hp2 hp1 hs hk hl hb), ?_⟩
    rw [startTrip_eq (s := s.overriding) _ hp2]
    and_intros <;> rfl
  case noOverride =>
    rw [exec_overrideExpiry, overrideActs_early]
    · exact event_comesTo (comesTo_nil h)
    · rw [overrideDue_iff]
      exact fun ⟨hh, ht⟩ => hn.elim (· hh) (not_lt.mpr ht)
end

section
/-! # The indicator, and the writes of table 13

An advance of the indicator and the level of IND by the selected pattern; a write of a pattern's buffered copy, which a
pattern not selected works with at once; a write of the button's two times. -/

namespace Sys2Proof.Machine

open Sys2Proof

/-! ## An advance and the level of IND (R128 to R130) -/

section Advance

variable {u : IndicatorUnit}

theorem advance_leadIn (h : u.leadIn = true) (sel : Fin 4) : u.advance sel = { u with leadIn := false, phase := 0 } :=
  if_pos h

theorem advance_moves (h : u.leadIn = false) {sel : Fin 4} (hp : u.phase + 1 < (u.working.get sel).period) :
    u.advance sel = { u with phase := u.phase + 1 } := by
  rw [IndicatorUnit.advance, if_neg (by simp [h]), if_pos hp]

theorem advance_wraps (h : u.leadIn = false) {sel : Fin 4} (hp : (u.working.get sel).period ≤ u.phase + 1) :
    u.advance sel = { u with phase := 0, working := u.working.set sel (u.buffered.get sel) } := by
  rw [IndicatorUnit.advance, if_neg (by simp [h]), if_neg (not_lt.mpr hp)]

end Advance

section Out

variable {s : State}

/-- R130: IND is inactive in a lead-in. -/
theorem indOut_leadIn (h : s.indicator.leadIn = true) : s.indOut = (s.indicator.working.get s.selected).inverted := by
  simp [State.indOut, h]

theorem indOut_shown (h : s.indicator.leadIn = false) :
    s.indOut = xor ((s.indicator.working.get s.selected).active s.indicator.phase)
      (s.indicator.working.get s.selected).inverted := by
  simp [State.indOut, h]

end Out

section Active

variable {q : IndPattern}

theorem active_off (h : q.mode = .off) (phase : Nat) : q.active phase = false := by
  simp [IndPattern.active, h]

theorem active_on (h : q.mode = .on) (phase : Nat) : q.active phase = true := by
  simp [IndPattern.active, h]

theorem active_blink (h : q.mode = .blink) (phase : Nat) :
    q.active phase = decide (phase < q.onTime ∧ phase < q.period) := by
  simp [IndPattern.active, h]

end Active

end Sys2Proof.Machine

open Sys2Proof Sys2Proof.Machine in
/-- Settles O43: the three things that an advance can do, and the level by the lead-in and the selected pattern's mode. -/
theorem indicatorAdvances : Obligations.IndicatorAdvances := by
  intro s u k q
  have hk : s.selected = k := by
    unfold k State.selected
    cases s.platform <;> rfl
  have advanced {v : IndicatorUnit} (hv : u.advance k = v) :
      exec .indicatorPhaseAdvance s = .next { s with indicator := v } := by
    rw [exec_indicatorPhaseAdvance, hk, hv]
  have lead (hl : u.leadIn = true) : s.indOut = q.inverted := by rw [indOut_leadIn hl, hk]
  have shown (hl : u.leadIn = false) : s.indOut = xor (q.active u.phase) q.inverted := by rw [indOut_shown hl, hk]
  refine ⟨fun hl => advanced (advance_leadIn hl k), fun hl hp => advanced (advance_moves hl hp),
    fun hl hp => advanced (advance_wraps hl hp), fun hoff => ?inactive, fun hl hon => ?on, fun hl hblink => ?blink⟩
  case inactive =>
    cases hl : u.leadIn with
    | false => rw [shown hl, active_off (hoff.resolve_left (by simp [hl])), Bool.false_xor]
    | true => exact lead hl
  case on => rw [shown hl, active_on hon, Bool.true_xor]
  case blink =>
    rw [shown hl, active_blink hblink]
    by_cases ha : u.phase < q.onTime ∧ u.phase < q.period
    · rw [if_pos ha, decide_eq_true ha, Bool.true_xor]
    · rw [if_neg ha, decide_eq_false ha, Bool.false_xor]

namespace Sys2Proof.Machine

open Sys2Proof

/-! ## The fields that a mask selects (R184) -/

/-- The two bytes of a word read back as it. -/
theorem bytesValue_word {v : Nat} (h : v ≤ 65535) :
    bytesValue [BitVec.ofNat 8 (v / 256), BitVec.ofNat 8 v] = v := by
  simp only [bytesValue, List.foldl_cons, List.foldl_nil, BitVec.toNat_ofNat]
  omega

/-- Table 13: the selection of the four fields of a buffered copy. -/
def patternSelection (m p a i : Nat) : List (Option Nat) := [m, p, a, i].map some ++ List.replicate 6 none

/-- Table 13: the selection of the two times. -/
def timesSelection (d o : Nat) : List (Option Nat) := List.replicate 8 none ++ [d, o].map some

theorem selection_pattern (m i : Byte) {p a : Nat} (hp : p ≤ 65535) (ha : a ≤ 65535) :
    selection 13 0xF ([m] ++ fieldBytes 2 p ++ fieldBytes 2 a ++ [i])
      = some (patternSelection m.toNat p a i.toNat) := by
  have byte (b : Byte) : bytesValue [b] = b.toNat := by simp [bytesValue]
  simp [selection, tableLayout, selectFields, rw, ro, fieldBytes_two, byte, bytesValue_word hp, bytesValue_word ha,
    patternSelection]

theorem selection_times {d o : Nat} (hd : d ≤ 255) (ho : o ≤ 65535) :
    selection 13 0x300 (BitVec.ofNat 8 d :: fieldBytes 2 o) = some (timesSelection d o) := by
  have byte : bytesValue [BitVec.ofNat 8 d] = d := by
    simp [bytesValue]
    omega
  simp [selection, tableLayout, selectFields, rw, ro, fieldBytes_two, byte, bytesValue_word ho, timesSelection]

/-! ## The write of table 13 -/

theorem toNat_ofNat_pattern (k : Fin 4) : (BitVec.ofNat 8 k.val).toNat = k.val := toNat_ofNat_of_lt (by omega)

theorem executeWrite_pattern {mask : BitVec 16} {values : List Byte} {sel : List (Option Nat)} (hmask : mask ≠ 0)
    (hsel : selection 13 mask values = some sel) (s : State) (k : Fin 4) :
    s.executeWrite 13 k.val mask values = s.writePattern k sel := by
  have hindex : indexInRange 13 k.val = true := by simp [indexInRange, tableRange]
  simp only [State.executeWrite, hindex, hsel, if_neg hmask, State.writeTable, recordIndex_val]
  rfl

/-- R126: a write that selects fields of the pattern alone replaces the buffered copy. -/
theorem writePattern_accepts {s : State} {k : Fin 4} {sel : List (Option Nat)} {q : IndPattern}
    (hpat : selectsPattern sel = true) (htimes : selectsTimes sel = false) (hq : s.writtenPattern k sel = some q) :
    s.writePattern k sel = (s.setPattern k q, .ok) := by
  simp [State.writePattern, hpat, htimes, hq, accept]

theorem writePattern_refuses {s : State} {k : Fin 4} {sel : List (Option Nat)} (hpat : selectsPattern sel = true)
    (hq : s.writtenPattern k sel = none) : s.writePattern k sel = (s, .badValue) := by
  simp [State.writePattern, hpat, hq, State.refuse]

/-- R120: a write that selects times alone replaces both, at index 0. -/
theorem writePattern_accepts_times {s : State} {sel : List (Option Nat)} {x : Nat × Nat}
    (hpat : selectsPattern sel = false) (htimes : selectsTimes sel = true) (hx : s.writtenTimes sel = some x) :
    s.writePattern 0 sel = (s.setTimes x, .ok) := by
  simp [State.writePattern, hpat, htimes, hx, accept]

/-- R120: a write of times out of range or order, or at another index, is refused. -/
theorem writePattern_refuses_times {s : State} {k : Fin 4} {sel : List (Option Nat)} (hpat : selectsPattern sel = false)
    (htimes : selectsTimes sel = true) (h : s.writtenTimes sel = none ∨ k ≠ 0) :
    s.writePattern k sel = (s, .badValue) := by
  cases hx : s.writtenTimes sel with
  | none => simp [State.writePattern, hpat, htimes, hx, State.refuse]
  | some x =>
    have hk : k ≠ 0 := h.resolve_left (by simp [hx])
    simp [State.writePattern, hpat, htimes, hx, hk, State.refuse]

/-! ## What is written -/

@[simp] theorem indModeOf_code (m : IndMode) : indModeOf m.code = some m := by
  cases m <;> rfl

/-- R126: the codes of a pattern spell it where it keeps its ranges. -/
theorem indPatternOf_fields (q : IndPattern) :
    indPatternOf q.mode.code q.period q.onTime (boolCode q.inverted) = if q.wf then some q else none := by
  simp [indPatternOf]

/-- R126: the whole pattern that a write leaves. -/
theorem writtenPattern_all (s : State) (k : Fin 4) (q : IndPattern) :
    s.writtenPattern k (patternSelection q.mode.code q.period q.onTime (boolCode q.inverted))
      = if q.wf then some q else none := by
  rw [← indPatternOf_fields]
  rfl

/-- R120: the two times that a write leaves. -/
theorem writtenTimes_all (s : State) (d o : Nat) :
    s.writtenTimes (timesSelection d o) = if buttonTimesWf d o then some (d, o) else none := rfl

/-- R126: the indicator after a write of the selected pattern, whose working copy stands until the wrap. -/
theorem write_selected (u : IndicatorUnit) (k : Fin 4) (q : IndPattern) :
    u.write k k q = { u with buffered := u.buffered.set k q } := if_pos rfl

/-- R126: the indicator after a write of another pattern. -/
theorem write_other (u : IndicatorUnit) {sel k : Fin 4} (h : k ≠ sel) (q : IndPattern) :
    u.write sel k q = { u with buffered := u.buffered.set k q, working := u.working.set k q } := if_neg h

theorem buttonTimesWf_iff {d o : Nat} (hd : d ≤ 255) :
    buttonTimesWf d o = true ↔ 1 ≤ d ∧ 62 ≤ o ∧ o ≤ 1000 ∧ d < o := by
  simp [buttonTimesWf]
  omega

end Sys2Proof.Machine

open Sys2Proof Sys2Proof.Machine in
/-- Settles O54: the bytes spell the pattern and the times, which their ranges accept or refuse. -/
theorem patternAndTimesWrites : Obligations.PatternAndTimesWrites := by
  intro tag k q d o s h at_ u pattern times
  have writePattern {t : State} {st : CfgStatus} (hp : q.period ≤ 65535) (ha : q.onTime ≤ 65535)
      (hw : s.writePattern k (patternSelection q.mode.code q.period q.onTime (boolCode q.inverted)) = (t, st)) :
      exec (.indicatorPatternWrite tag at_ 0xF pattern) s = .next (s.ends (t.answered tag 13 at_ st [])) := by
    have hbytes : pattern
        = [BitVec.ofNat 8 q.mode.code] ++ fieldBytes 2 q.period ++ fieldBytes 2 q.onTime
          ++ [BitVec.ofNat 8 (boolCode q.inverted)] := by
      unfold pattern
      rw [boolCode_byte]
      cases q.mode <;> rfl
    have hmode : (BitVec.ofNat 8 q.mode.code).toNat = q.mode.code := by
      cases q.mode <;> rfl
    have hsel := selection_pattern (BitVec.ofNat 8 q.mode.code) (BitVec.ofNat 8 (boolCode q.inverted)) hp ha
    rw [← hbytes, hmode, toNat_ofNat_of_lt (boolCode_lt _)] at hsel
    refine request_write h rfl ?_
    rw [toNat_ofNat_pattern, ← hw]
    exact executeWrite_pattern (by decide) hsel s k
  have writeTimes {t : State} {st : CfgStatus} (j : Fin 4) (hd : d ≤ 255) (ho : o ≤ 65535)
      (hw : s.writePattern j (timesSelection d o) = (t, st)) :
      exec (.buttonTimesWrite tag (BitVec.ofNat 8 j.val) 0x300 times) s
        = .next (s.ends (t.answered tag 13 (BitVec.ofNat 8 j.val) st [])) := by
    refine request_write h rfl ?_
    rw [toNat_ofNat_pattern, ← hw]
    exact executeWrite_pattern (by decide) (selection_times hd ho) s j
  have written {v : IndicatorUnit} (hwf : q.wf = true) (hv : u.write s.selected k q = v) :
      exec (.indicatorPatternWrite tag at_ 0xF pattern) s
        = .next (s.ends (State.answered { s with indicator := v } tag 13 at_ .ok [])) := by
    have hrange : (1 ≤ q.period ∧ q.period ≤ 4095) ∧ q.onTime ≤ 4095 := by simpa [IndPattern.wf] using hwf
    obtain ⟨⟨-, hp⟩, ha⟩ := hrange
    refine writePattern (by omega) (by omega) ?_
    rw [writePattern_accepts rfl rfl ((writtenPattern_all s k q).trans (if_pos hwf)), State.setPattern, hv]
  refine ⟨fun hwf hk => written hwf (write_other u hk q), fun hwf hk => ?selected, fun hwf hp ha => ?range,
    fun hd ho => ⟨fun hx => ?times, fun hx => ?order, fun hk => ?index⟩⟩
  case selected =>
    refine written hwf ?_
    rw [← hk]
    exact write_selected u k q
  case range =>
    exact writePattern hp ha (writePattern_refuses rfl ((writtenPattern_all s k q).trans (if_neg (by simp [hwf]))))
  case times =>
    have hwf := (buttonTimesWf_iff hd).mpr hx
    exact writeTimes 0 hd ho (writePattern_accepts_times rfl rfl ((writtenTimes_all s d o).trans (if_pos hwf)))
  case order =>
    have hwf := (buttonTimesWf_iff hd).not.mpr hx
    exact writeTimes 0 hd ho (writePattern_refuses_times rfl rfl (.inl ((writtenTimes_all s d o).trans (if_neg hwf))))
  case index => exact writeTimes k hd ho (writePattern_refuses_times rfl rfl (.inr hk))
end

section
/-! # The tables, the capture records, the statuses, the counters, the button and the indicator

Each of these keeps its own invariant under the few changes that the model makes to it. -/

-- One declaration at a time: the threads that would wait for the kernel go past the limit on memory.
set_option Elab.async false

namespace Sys2Proof.Machine

open Sys2Proof

/-! ## The signal table (R132 to R134) -/

theorem hasKey_iff {e : SignalEntry} {p : Port} {a : BitVec 4} {n : Byte} :
    e.hasKey p a n = true ↔ e.inUse = true ∧ e.port = p ∧ e.agent = a ∧ e.signal = n := by
  simp [SignalEntry.hasKey, and_assoc]

/-- R136: a search that finds an entry finds one with the key. -/
theorem findSignal_hasKey {s : State} {p : Port} {a : BitVec 4} {n : Byte} {i : Fin 64}
    (h : s.findSignal p a n = some i) : (s.signals.get i).hasKey p a n = true :=
  List.find?_some (p := fun j => (s.signals.get j).hasKey p a n) h

/-- R132: the level of an entry is none of its tests. -/
theorem signalEntryOf_wf {level : Tracked} {l : List Nat} {e : SignalEntry} (h : signalEntryOf level l = some e) :
    e.wf = true := by
  unfold signalEntryOf at h
  split at h
  · simp only [Option.bind_eq_bind, Option.bind_eq_some_iff, Option.ite_none_right_eq_some, Option.some.injEq] at h
    obtain ⟨_, -, _, -, _, -, _, -, _, -, _, -, _, -, _, -, _, -, _, -, hwf, rfl⟩ := h
    exact hwf
  · simp at h

/-- R134: the fields that keep a level as they stand. -/
theorem resetsLevel_eq_false {old new : SignalEntry} :
    old.resetsLevel new = false ↔ old.port = new.port ∧ old.agent = new.agent ∧ old.signal = new.signal
      ∧ old.inUse = new.inUse ∧ old.track = new.track := by
  simp [SignalEntry.resetsLevel, and_assoc]

/-- R133: an entry out of use, or with a key of its own, duplicates none. -/
theorem duplicateKey_eq_false {s : State} {i : Fin 64} {e : SignalEntry} :
    s.duplicateKey i e = false ↔
      (e.inUse = true → ∀ j, j ≠ i → (s.signals.get j).hasKey e.port e.agent e.signal = false) := by
  cases hu : e.inUse <;> simp [State.duplicateKey, hu]

/-- R132 to R134: a sound entry with a key of its own may replace any entry. -/
theorem State.SignalsSound.setEntry {s : State} (h : s.SignalsSound) {i : Fin 64} {e : SignalEntry} (he : e.Sound)
    (hkey : e.inUse = true → ∀ j, j ≠ i → (s.signals.get j).hasKey e.port e.agent e.signal = false) :
    State.SignalsSound { s with signals := s.signals.set i.val e i.isLt } := by
  obtain ⟨hsound, hdistinct⟩ := h
  refine ⟨fun j => ?_, fun j k hj hk => ?_⟩ <;> dsimp only at *
  · rw [get_set]
    split
    · exact he
    · exact hsound j
  · rw [get_set] at hj hk
    rw [get_set] at hk
    by_cases hji : j = i <;> by_cases hki : k = i <;> simp only [hji, hki, if_true, if_false] at hj hk ⊢
    · exact absurd hk (by simp [hkey hj k hki])
    · obtain ⟨hu, hp, ha, hn⟩ := hasKey_iff.mp hk
      have hown := hkey hu j hji
      rw [hp, ha, hn] at hown
      exact absurd (hasKey_iff.mpr ⟨hj, rfl, rfl, rfl⟩) (by simp [hown])
    · exact hdistinct j k hj hk

/-- R140: the written level is that of an entry in use with TRACK, whose key stands. -/
theorem State.SignalsSound.writeLevel {s : State} (h : s.SignalsSound) (p : Port) (a : BitVec 4) (n : Byte) (l : Level) :
    (s.writeLevel p a n l).SignalsSound := by
  unfold State.writeLevel
  split
  · exact h
  · rename_i i hi
    split
    · rename_i htrack
      obtain ⟨hu, -⟩ := hasKey_iff.mp (findSignal_hasKey hi)
      refine h.setEntry ⟨(h.1 i).1, fun hoff => ?_⟩ fun _ j hj => ?_
      · exact absurd hoff (by simp [hu, htrack])
      · exact Bool.eq_false_iff.mpr fun hk => hj (h.2 i j hu hk).symm
    · exact h

/-- R132 to R134: a written entry passes the tests and duplicates no key, and its level stands only where its fields
do. -/
theorem State.SignalsSound.writeSignal {s : State} (h : s.SignalsSound) (i : Fin 64) (sel : List (Option Nat)) :
    (s.writeSignal i sel).1.SignalsSound := by
  unfold State.writeSignal
  dsimp only
  split
  · exact h
  · rename_i e he
    split
    · exact h
    · rename_i hdup
      have hwf := signalEntryOf_wf he
      refine h.setEntry ⟨hwf, fun hoff => ?_⟩ (duplicateKey_eq_false.mp (Bool.eq_false_iff.mpr hdup))
      dsimp only at hoff ⊢
      split
      · rfl
      · rename_i hkept
        obtain ⟨-, -, -, hu, ht⟩ := resetsLevel_eq_false.mp (Bool.eq_false_iff.mpr hkept)
        exact (h.1 i).2 (by rwa [hu, ht])

/-! ## Capture records (R109, R110) -/

theorem clearCapture_sound : clearCapture.Sound := ⟨by decide, by decide, by decide⟩

/-- R110: an arrival leaves one capture, or one more than one. -/
theorem CaptureRecord.Sound.arrive {c : CaptureRecord} (h : c.Sound) (milli : Tick) (p : PlatformState)
    (e : CaptureEffect) : (c.arrive milli p e).Sound := by
  obtain ⟨hzero, -, -⟩ := h
  cases hc : c.captured <;>
    simp [hc, CaptureRecord.Sound, CaptureRecord.arrive, satAdd, captureCeiling] at hzero ⊢
  omega

theorem State.CapturesSound.setCapture {s : State} (h : s.CapturesSound) (n : SourceId) {c : CaptureRecord}
    (hc : c.Sound) : (s.setCapture n c).CapturesSound := by
  intro m
  rw [State.setCapture, get_set]
  split
  · exact hc
  · exact h m

/-! ## Apply statuses (R171 to R174) -/

/-- R174: a mark and a status that are written together match. -/
theorem State.MarksMatch.write {s : State} (h : s.MarksMatch) (k : ItemId) {b : Bool} {st : ApplyStatus}
    (hst : st = .inProgress ↔ b = true) :
    State.MarksMatch { s with
      applyPending := s.applyPending.set k.val b k.isLt, applyStatus := s.applyStatus.set k.val st k.isLt } := by
  intro j
  dsimp only
  rw [get_set, get_set]
  split
  · exact hst
  · exact h j

theorem judgeDomainSet_ne_inProgress (s : State) (ds : Vector DomainConfig 10) : s.judgeDomainSet ds ≠ .inProgress := by
  unfold State.judgeDomainSet
  split_ifs <;> decide

theorem judgePlan_ne_inProgress (s : State) (k : SlotId) (p : Plan) : s.judgePlan k p ≠ .inProgress := by
  unfold State.judgePlan
  split_ifs <;> decide

/-! ## Counters (R56, R86, R160) -/

theorem satAdd_le (ceiling count n : Nat) : satAdd ceiling count n ≤ ceiling := Nat.min_le_right _ _

theorem TripRecord.add_secondary_le {r : TripRecord} (h : r.secondary ≤ 255) (c : TripCause) :
    (r.add c).secondary ≤ 255 := by
  unfold TripRecord.add
  split
  · exact h
  · exact satAdd_le ..

theorem zeroStats_bounded : zeroStats.Bounded := by
  unfold DomainStats.Bounded
  decide

/-- R86: each counting event keeps the counters within their ceiling. -/
def KeepsBounds (f : DomainStats → DomainStats) : Prop := ∀ t : DomainStats, t.Bounded → (f t).Bounded

theorem countRise_keepsBounds (cls : RampClass) : KeepsBounds (·.countRise cls) := by
  rintro t ⟨hok, hfast, hslow, hrest⟩
  cases cls
  · exact ⟨hok, satAdd_le .., hslow, hrest⟩
  · exact ⟨satAdd_le .., hfast, hslow, hrest⟩
  · exact ⟨hok, hfast, satAdd_le .., hrest⟩

theorem countFall_keepsBounds (cls : RampClass) : KeepsBounds (·.countFall cls) := by
  rintro t ⟨hro, hrf, hrs, hok, hfast, hslow, hrest⟩
  cases cls
  · exact ⟨hro, hrf, hrs, hok, satAdd_le .., hslow, hrest⟩
  · exact ⟨hro, hrf, hrs, satAdd_le .., hfast, hslow, hrest⟩
  · exact ⟨hro, hrf, hrs, hok, hfast, satAdd_le .., hrest⟩

theorem countTimeout_keepsBounds : KeepsBounds fun t => { t with timeouts := satAdd wordCeiling t.timeouts 1 } :=
  fun _ ⟨ro, rf, rs, fo, ff, fs, _, hfaults⟩ => ⟨ro, rf, rs, fo, ff, fs, satAdd_le .., hfaults⟩

theorem countFault_keepsBounds : KeepsBounds fun t => { t with faults := satAdd wordCeiling t.faults 1 } :=
  fun _ ⟨ro, rf, rs, fo, ff, fs, htimeouts, _⟩ => ⟨ro, rf, rs, fo, ff, fs, htimeouts, satAdd_le ..⟩

theorem KeepsBounds.count {f : DomainStats → DomainStats} (hf : KeepsBounds f) {r : DomainRuntime}
    (h : r.stats.Bounded) : (r.count f).stats.Bounded := by
  unfold DomainRuntime.count
  split
  · exact hf _ h
  · exact h

theorem captureRise_bounded {r : DomainRuntime} (h : r.stats.Bounded) (c : DomainConfig) (now : Tick) :
    (r.captureRise c now).stats.Bounded :=
  (countRise_keepsBounds _).count h

theorem captureFall_bounded {r : DomainRuntime} (h : r.stats.Bounded) (c : DomainConfig) (now : Tick) :
    (r.captureFall c now).stats.Bounded :=
  (countFall_keepsBounds _).count h

theorem setCounting_bounded {r : DomainRuntime} (h : r.stats.Bounded) (b : Bool) :
    (r.setCounting b).stats.Bounded := by
  unfold DomainRuntime.setCounting
  dsimp only
  split
  · exact zeroStats_bounded
  · exact h

/-! ## The indicator (R126 to R130) -/

theorem IndPattern.period_pos {q : IndPattern} (h : q.wf = true) : 0 < q.period := by
  simp only [IndPattern.wf, Bool.and_eq_true, decide_eq_true_eq] at h
  omega

/-- R126, R128, R130: the indicator is sound while this pattern is selected. -/
def IndicatorUnit.SoundAt (u : IndicatorUnit) (sel : Fin 4) : Prop :=
  (∀ k : Fin 4, (u.working.get k).wf = true ∧ (u.buffered.get k).wf = true)
    ∧ u.phase < (u.working.get sel).period
    ∧ (u.leadIn = true → u.phase = 0)
    ∧ ∀ k : Fin 4, k ≠ sel → u.working.get k = u.buffered.get k

theorem indicatorSound_iff (s : State) : s.IndicatorSound ↔ s.indicator.SoundAt s.selected := Iff.rfl

namespace IndicatorUnit.SoundAt

variable {u : IndicatorUnit} {sel : Fin 4}

/-- R129, R130: once the selected pattern has taken its buffered copy, with the phase at 0, any pattern may be selected. -/
theorem takeBuffered (h : u.SoundAt sel) (lead : Bool) (new : Fin 4) :
    SoundAt { u with working := u.working.set sel.val (u.buffered.get sel) sel.isLt, phase := 0, leadIn := lead } new := by
  obtain ⟨hwf, -, -, hother⟩ := h
  have hall (k : Fin 4) : (u.working.set sel.val (u.buffered.get sel) sel.isLt).get k = u.buffered.get k := by
    rw [get_set]
    split
    · rename_i hk
      rw [hk]
    · exact hother k ‹_›
  have hworking (k : Fin 4) : ((u.working.set sel.val (u.buffered.get sel) sel.isLt).get k).wf = true := by
    rw [hall]
    exact (hwf k).2
  exact ⟨fun k => ⟨hworking k, (hwf k).2⟩, IndPattern.period_pos (hworking new), fun _ => rfl, fun k _ => hall k⟩

/-- R128 to R130: an advance keeps the phase below the selected period. -/
theorem advance (h : u.SoundAt sel) : (u.advance sel).SoundAt sel := by
  have ⟨hwf, _, _, hother⟩ := h
  cases hl : u.leadIn with
  | true =>
    rw [advance_leadIn hl]
    exact ⟨hwf, IndPattern.period_pos (hwf sel).1, fun _ => rfl, hother⟩
  | false =>
    by_cases hp : u.phase + 1 < (u.working.get sel).period
    · rw [advance_moves hl hp]
      exact ⟨hwf, hp, fun hl' => absurd hl' (by simp [hl]), hother⟩
    · rw [advance_wraps hl (Nat.le_of_not_lt hp)]
      exact h.takeBuffered u.leadIn sel

/-- R126: a written pattern reaches the buffered copy, and the working copy of a pattern not selected. -/
theorem write (h : u.SoundAt sel) (k : Fin 4) {q : IndPattern} (hq : q.wf = true) : (u.write sel k q).SoundAt sel := by
  obtain ⟨hwf, hphase, hlead, hother⟩ := h
  have hset {v : Vector IndPattern 4} (hv : ∀ j, (v.get j).wf = true) (j : Fin 4) :
      ((v.set k.val q k.isLt).get j).wf = true := by
    rw [get_set]
    split
    · exact hq
    · exact hv j
  have hbuffered := hset fun j => (hwf j).2
  by_cases hk : k = sel
  · rw [hk] at hbuffered ⊢
    rw [write_selected]
    exact ⟨fun j => ⟨(hwf j).1, hbuffered j⟩, hphase, hlead, fun j hj => (hother j hj).trans (get_set_of_ne _ _ hj).symm⟩
  · rw [write_other _ hk]
    refine ⟨fun j => ⟨hset (fun j => (hwf j).1) j, hbuffered j⟩, ?_, hlead, fun j hj => ?_⟩ <;> dsimp only
    · rw [get_set_of_ne _ _ (Ne.symm hk)]
      exact hphase
    · rw [get_set, get_set, hother j hj]

end IndicatorUnit.SoundAt

/-- R127, R130: a change of the platform state that changes the selection leaves the pattern left with its buffered
copy. -/
theorem State.IndicatorSound.enterPlatform {s : State} (h : s.IndicatorSound) (p : PlatformState) :
    (s.enterPlatform p).IndicatorSound := by
  unfold State.enterPlatform
  split
  · exact h
  · dsimp only
    rw [indicatorSound_iff] at h ⊢
    split
    · rename_i hsel
      have hs : patternOf p = s.selected := hsel
      rw [← hs] at h
      exact h
    · exact h.takeBuffered true (patternOf p)

/-! ## The button (R119 to R125) -/

/-- R121: a press edge takes the times into force and begins a hold. -/
theorem State.ButtonSound.buttonFalls {s : State} (h : s.ButtonSound) : s.buttonFalls.ButtonSound := by
  obtain ⟨htimes, hforce, hlow, hmark⟩ := h
  unfold State.buttonFalls
  split
  · exact ⟨htimes, hforce, hlow, hmark⟩
  · split
    · rename_i hidle
      refine ⟨htimes, htimes, fun _ => rfl, fun hm => ?_⟩
      exact absurd (hmark hm) (by simp [hidle])
    · exact ⟨htimes, hforce, fun _ => rfl, hmark⟩

theorem writtenTimes_wf {s : State} {sel : List (Option Nat)} {x : Nat × Nat} (h : s.writtenTimes sel = some x) :
    buttonTimesWf x.1 x.2 = true := by
  unfold State.writtenTimes at h
  simp only [Option.ite_none_right_eq_some, Option.some.injEq] at h
  obtain ⟨hwf, rfl⟩ := h
  exact hwf

theorem indPatternOf_wf {m p a i : Nat} {q : IndPattern} (h : indPatternOf m p a i = some q) : q.wf = true := by
  simp only [indPatternOf, Option.bind_eq_bind, Option.bind_eq_some_iff, Option.ite_none_right_eq_some,
    Option.some.injEq] at h
  obtain ⟨_, -, _, -, hwf, rfl⟩ := h
  exact hwf

theorem writtenPattern_wf {s : State} {k : Fin 4} {sel : List (Option Nat)} {q : IndPattern}
    (h : s.writtenPattern k sel = some q) : q.wf = true := by
  unfold State.writtenPattern at h
  split at h
  · exact indPatternOf_wf h
  · simp at h

end Sys2Proof.Machine
end

section
/-! # What the work of an event leaves of the units

The work of an event reaches the tables, the records, the counters, the button and the indicator through a few changes
alone: a platform state entered, a trip cause counted, a domain's record replaced, an outcome written, a capture, a
level, a port's or an agent's count. -/

-- One declaration at a time: the threads that would wait for the kernel go past the limit on memory.
set_option Elab.async false

namespace Sys2Proof.Machine

open Sys2Proof

/-! ## The registers that the invariant reads -/

/-- The registers that the invariant of the units reads, ports with their counters alone. -/
structure UnitView where
  platform : PlatformState
  trip : TripRecord
  domains : Vector DomainRuntime 10
  applyPending : Vector Bool 8
  applyStatus : Vector ApplyStatus 8
  wakes : Vector WakeRecord 16
  captures : Vector CaptureRecord 16
  button : ButtonUnit
  indicator : IndicatorUnit
  signals : Vector SignalEntry 64
  agents : Vector AgentRecord 14
  counts : (Nat × Nat) × Nat × Nat

/-- The registers of a state that the invariant of the units reads. -/
def State.units (s : State) : UnitView :=
  ⟨s.platform, s.trip, s.domains, s.applyPending, s.applyStatus, s.wakes, s.captures, s.button, s.indicator, s.signals,
    s.agents, (s.up.errors, s.up.discards), s.dn.errors, s.dn.discards⟩

/-- R56, R86, R103, R109, R119 to R134, R174: the tables, the records, the counters, the button and the indicator are
sound. -/
structure State.UnitsSound (s : State) : Prop where
  signals : s.SignalsSound
  source : s.ButtonSourceFixed
  captures : s.CapturesSound
  marks : s.MarksMatch
  counters : s.CountersBounded
  button : s.ButtonSound
  indicator : s.IndicatorSound

@[simp] theorem units_notify (s : State) (n : Notice) : (s.notify n).units = s.units := rfl

@[simp] theorem units_notifyIf (s : State) (c : Bool) (n : Notice) : (s.notifyIf c n).units = s.units := by
  cases c <;> rfl

@[simp] theorem units_setQueue (s : State) (q : QueueId) (l : List Frame) : (s.setQueue q l).units = s.units := rfl

@[simp] theorem units_enqueue (s : State) (q : QueueId) (f : Frame) : (s.enqueue q f).units = s.units := by
  obtain ⟨-, e⟩ | ⟨-, e⟩ := enqueue_cases s q f <;> simp [e]

@[simp] theorem units_setEmitted (s : State) (p : Port) (sig : Byte) (l : Level) :
    (s.setEmitted p sig l).units = s.units := by
  cases p <;> rfl

@[simp] theorem units_setLine (s : State) (l : WakeLine) (b : Bool) : (s.setLine l b).units = s.units := by
  cases l <;> rfl

@[simp] theorem units_flushQueues (s : State) (p : Port) : (s.flushQueues p).units = s.units := by
  cases p <;> simp [State.flushQueues, txQueues]

@[simp] theorem units_pushUndo (s : State) (r : UndoRecord) : (s.pushUndo r).units = s.units := by
  obtain ⟨-, -, e⟩ | e := pushUndo_cases s r <;> rw [e]
  rfl

/-- A port's state with its counters as they stand. -/
theorem units_setPort {s : State} {p : Port} {x : PortState} (he : x.errors = (s.port p).errors)
    (hd : x.discards = (s.port p).discards) : (s.setPort p x).units = s.units := by
  cases p <;> simp [State.units, State.setPort, State.port, he, hd]

@[simp] theorem units_chooseFrame (s : State) (p : Port) : (s.chooseFrame p).units = s.units := by
  obtain e | ⟨q, f, rest, -, -, -, -, e⟩ := chooseFrame_cases s p <;> rw [e]
  have hport := State.port_setQueue s q rest p
  exact units_setPort (by rw [hport]) (by rw [hport])

@[simp] theorem units_chooseBoth (s : State) : s.chooseBoth.units = s.units := by
  simp [State.chooseBoth]

@[simp] theorem units_queueNote (s : State) : s.queueNote.units = s.units := units_enqueue s .upRsp s.noteFrame

@[simp] theorem units_tryNote (s : State) : s.tryNote.units = s.units := by
  obtain ⟨-, e⟩ | e := tryNote_cases s <;> simp [e]

@[simp] theorem units_settle (s : State) (b : Before) : (s.settle b).1.units = s.units := by
  obtain ⟨p, -, e⟩ | ⟨-, e⟩ | e := settle_cases s b <;> simp [e]

@[simp] theorem units_emptyHead (s : State) (p : Port) : (s.emptyHead p).units = s.units := units_setPort rfl rfl

namespace State.UnitsSound

variable {s t : State}

/-- The invariant of the units reads their view alone. -/
theorem congr (h : s.UnitsSound) (e : t.units = s.units := by rfl) : t.UnitsSound := by
  have hport (p : Port) : (t.port p).errors = (s.port p).errors ∧ (t.port p).discards = (s.port p).discards := by
    cases p <;> simp_all [State.units, State.port]
  simp only [State.units, UnitView.mk.injEq] at e
  obtain ⟨hplatform, htrip, hdomains, hpending, hstatus, hwakes, hcaptures, hbutton, hindicator, hsignals, hagents, -⟩ := e
  obtain ⟨hsigs, hsource, hcaps, hmarks, hcounters, hbtn, hind⟩ := h
  simp only [SignalsSound, KeysDistinct, ButtonSourceFixed, CapturesSound, MarksMatch, CountersBounded, ButtonSound,
    IndicatorSound, selected, State.dom] at hsigs hsource hcaps hmarks hcounters hbtn hind
  constructor <;>
    simpa only [SignalsSound, KeysDistinct, ButtonSourceFixed, CapturesSound, MarksMatch, CountersBounded, ButtonSound,
      IndicatorSound, selected, State.dom, hport, hplatform, htrip, hdomains, hpending, hstatus, hwakes, hcaptures,
      hbutton, hindicator, hsignals, hagents]

theorem ite {α : Type} {c : Prop} [Decidable c] {a b : State × α} (ha : a.1.UnitsSound) (hb : b.1.UnitsSound) :
    (if c then a else b).1.UnitsSound := by
  split
  · exact ha
  · exact hb

theorem stats (h : s.UnitsSound) (d : DomainId) : (s.dom d).stats.Bounded := by
  obtain ⟨-, -, -, hstats⟩ := h.counters
  exact hstats d

theorem counts (h : s.UnitsSound) (p : Port) : (s.port p).errors ≤ 65535 ∧ (s.port p).discards ≤ 65535 := by
  obtain ⟨hports, -⟩ := h.counters
  exact hports p

/-! ## The changes, one by one -/

theorem setPort (h : s.UnitsSound) {p : Port} {x : PortState} (hx : x.errors ≤ 65535 ∧ x.discards ≤ 65535) :
    (s.setPort p x).UnitsSound := by
  obtain ⟨hsignals, hsource, hcaptures, hmarks, ⟨hports, hrest⟩, hbutton, hindicator⟩ := h
  cases p
  · exact ⟨hsignals, hsource, hcaptures, hmarks, ⟨fun | .up => hx | .dn => hports .dn, hrest⟩, hbutton, hindicator⟩
  · exact ⟨hsignals, hsource, hcaptures, hmarks, ⟨fun | .up => hports .up | .dn => hx, hrest⟩, hbutton, hindicator⟩

theorem withAgents (h : s.UnitsSound) {v : Vector AgentRecord 14} (hv : ∀ i : Fin 14, (v.get i).misses ≤ 255) :
    State.UnitsSound { s with agents := v } := by
  obtain ⟨hsignals, hsource, hcaptures, hmarks, ⟨hports, -, hrest⟩, hbutton, hindicator⟩ := h
  exact ⟨hsignals, hsource, hcaptures, hmarks, ⟨hports, hv, hrest⟩, hbutton, hindicator⟩

theorem withTrip (h : s.UnitsSound) {r : TripRecord} (hr : r.secondary ≤ 255) :
    State.UnitsSound { s with trip := r } := by
  obtain ⟨hsignals, hsource, hcaptures, hmarks, ⟨hports, hagents, -, hstats⟩, hbutton, hindicator⟩ := h
  exact ⟨hsignals, hsource, hcaptures, hmarks, ⟨hports, hagents, hr, hstats⟩, hbutton, hindicator⟩

theorem setDom (h : s.UnitsSound) {d : DomainId} {r : DomainRuntime} (hr : r.stats.Bounded) :
    (s.setDom d r).UnitsSound := by
  obtain ⟨hsignals, hsource, hcaptures, hmarks, ⟨hports, hagents, htrip, hstats⟩, hbutton, hindicator⟩ := h
  refine ⟨hsignals, hsource, hcaptures, hmarks, ⟨hports, hagents, htrip, fun e => ?_⟩, hbutton, hindicator⟩
  rw [dom_setDom]
  split
  · exact hr
  · exact hstats e

theorem changeDom (h : s.UnitsSound) {d : DomainId} {r : DomainRuntime} (hr : r.stats.Bounded) :
    (s.changeDom d r).UnitsSound :=
  (h.setDom (d := d) (r := { r with change := true }) hr).congr (units_notify _ _)

theorem enterPlatform (h : s.UnitsSound) (p : PlatformState) : (s.enterPlatform p).UnitsSound := by
  obtain ⟨hsignals, hsource, hcaptures, hmarks, hcounters, hbutton, hindicator⟩ := h
  have hentered := hindicator.enterPlatform p
  rw [enterPlatform_shape] at hentered ⊢
  exact ⟨hsignals, hsource, hcaptures, hmarks, hcounters, hbutton, hentered⟩

theorem withMark (h : s.UnitsSound) (k : ItemId) {b : Bool} {st : ApplyStatus} (hst : st = .inProgress ↔ b = true) :
    State.UnitsSound { s with
      applyPending := s.applyPending.set k.val b k.isLt, applyStatus := s.applyStatus.set k.val st k.isLt } := by
  obtain ⟨hsignals, hsource, hcaptures, hmarks, hcounters, hbutton, hindicator⟩ := h
  exact ⟨hsignals, hsource, hcaptures, hmarks.write k hst, hcounters, hbutton, hindicator⟩

theorem setCapture (h : s.UnitsSound) (n : SourceId) {c : CaptureRecord} (hc : c.Sound) :
    (s.setCapture n c).UnitsSound := by
  obtain ⟨hsignals, hsource, hcaptures, hmarks, hcounters, hbutton, hindicator⟩ := h
  exact ⟨hsignals, hsource, hcaptures.setCapture n hc, hmarks, hcounters, hbutton, hindicator⟩

theorem withSignals (h : s.UnitsSound) {v : Vector SignalEntry 64} (hv : State.SignalsSound { s with signals := v }) :
    State.UnitsSound { s with signals := v } := by
  obtain ⟨-, hsource, hcaptures, hmarks, hcounters, hbutton, hindicator⟩ := h
  exact ⟨hv, hsource, hcaptures, hmarks, hcounters, hbutton, hindicator⟩

theorem setButton (h : s.UnitsSound) {b : ButtonUnit} (hb : (s.setButton b).ButtonSound) :
    (s.setButton b).UnitsSound := by
  obtain ⟨hsignals, hsource, hcaptures, hmarks, hcounters, -, hindicator⟩ := h
  exact ⟨hsignals, hsource, hcaptures, hmarks, hcounters, hb, hindicator⟩

theorem withIndicator (h : s.UnitsSound) {u : IndicatorUnit} (hu : u.SoundAt s.selected) :
    State.UnitsSound { s with indicator := u } := by
  obtain ⟨hsignals, hsource, hcaptures, hmarks, hcounters, hbutton, -⟩ := h
  exact ⟨hsignals, hsource, hcaptures, hmarks, hcounters, hbutton, hu⟩

/-! ## Links and frames -/

theorem linkError (h : s.UnitsSound) (p : Port) : (s.linkError p).UnitsSound := by
  refine congr ?_ (units_notify _ _)
  exact h.setPort ⟨satAdd_le .., (h.counts p).2⟩

theorem discard (h : s.UnitsSound) (p : Port) (n : Nat) : (s.discard p n).UnitsSound := by
  refine congr ?_ (units_notify _ _)
  exact h.setPort ⟨(h.counts p).1, satAdd_le ..⟩

theorem sendOwn (h : s.UnitsSound) (p : Port) (sig : Byte) (l : Level) : (s.sendOwn p sig l).UnitsSound := by
  unfold State.sendOwn
  split
  · exact h.congr (units_enqueue _ _ _)
  · exact h.discard p 1

theorem countMiss (h : s.UnitsSound) (a : BitVec 4) : (s.countMiss a).UnitsSound := by
  have ⟨_, hagents, _⟩ := h.counters
  unfold State.countMiss
  split
  · exact h
  · refine (h.withAgents fun i => ?_).congr (units_notify _ _)
    rw [get_set]
    split
    · exact satAdd_le ..
    · exact hagents i

theorem carryFate (h : s.UnitsSound) (fate : Fate) (f : Frame) : (s.carryFate fate f).UnitsSound := by
  cases fate with
  | consume => exact h
  | miss a => exact h.countMiss a
  | noAgent a => exact (h.countMiss a).congr (units_enqueue _ _ _)
  | discardUp => exact h.discard .up 1
  | place q g => exact h.congr (units_enqueue _ _ _)
  | deny => exact h.congr (units_enqueue _ _ _)

theorem writeLevel (h : s.UnitsSound) (p : Port) (a : BitVec 4) (n : Byte) (l : Level) :
    (s.writeLevel p a n l).UnitsSound := by
  have hwritten := h.signals.writeLevel p a n l
  unfold State.writeLevel at hwritten ⊢
  split at hwritten
  · exact h
  · split at hwritten
    · rw [if_pos ‹_›]
      exact h.withSignals hwritten
    · rwa [if_neg ‹_›]

theorem judgeHead (h : s.UnitsSound) (p : Port) : (s.judgeHead p).1.UnitsSound := by
  obtain ⟨f, -, -, e⟩ | e := judgeHead_cases s p <;> rw [e]
  · exact .ite ((h.congr (units_emptyHead s p)).writeLevel ..) (h.congr (units_emptyHead s p))
  · exact h

theorem receive (h : s.UnitsSound) (p : Port) (bytes : List Byte) : (s.receive p bytes).1.UnitsSound := by
  obtain ⟨-, e⟩ | e | ⟨f, -, -, -, e⟩ := receive_cases s p bytes <;> rw [e]
  · exact h
  · exact h.linkError p
  · exact h.setPort (h.counts p)

theorem linkGoesDown (h : s.UnitsSound) (p : Port) : (s.linkGoesDown p).1.UnitsSound := by
  unfold State.linkGoesDown
  split
  · exact h
  · refine discard ?_ p _
    exact (h.congr (units_flushQueues s p)).setPort (h.counts p)

theorem respond (h : s.UnitsSound) (f : Frame) : (s.respond f).UnitsSound := by
  unfold State.respond
  split
  · exact h.congr (units_enqueue _ _ _)
  · exact h.discard .up 1

theorem offerRequest (h : s.UnitsSound) (f : Frame) : (s.offerRequest f).1.UnitsSound := by
  obtain ⟨-, e | e | ⟨-, -, -, e⟩⟩ | ⟨-, -, e⟩ | ⟨-, -, -, e⟩ | ⟨-, -, e⟩ := offerRequest_cases s f <;> rw [e]
  · exact h
  · exact h.linkError .up
  · exact h.setPort (h.counts .up)
  · exact h
  · exact h.congr (units_enqueue _ _ _)
  · exact h

end State.UnitsSound
end Sys2Proof.Machine
end

section
/-! # The work of the domain controller, of the sequencer and of the wake unit keeps the units sound -/

-- One declaration at a time: the threads that would wait for the kernel go past the limit on memory.
set_option Elab.async false

namespace Sys2Proof.Machine

open Sys2Proof

namespace State.UnitsSound

variable {s t : State}

/-! ## The domain controller -/

theorem startHold (h : s.UnitsSound) (d : DomainId) : (s.startHold d).1.UnitsSound :=
  ite (h.setDom (h.stats d)) (h.setDom (h.stats d))

theorem tryPinned (h : s.UnitsSound) (d : DomainId) : (s.tryPinned d).UnitsSound := by
  obtain ⟨-, e⟩ | ⟨-, e⟩ := tryPinned_cases s d <;> rw [e]
  · exact h.changeDom (h.stats d)
  · exact h

theorem parentArrived (h : s.UnitsSound) (d : DomainId) : (s.parentArrived d).UnitsSound := by
  refine List.foldlRecOn allDomains _ h fun t ht c _ => ?_
  split
  · exact ht.tryPinned c
  · exact ht

theorem enableEffect (h : s.UnitsSound) (d : DomainId) (a : EnableAnswer) : (s.enableEffect d a).1.UnitsSound := by
  obtain ⟨-, -, e⟩ | e := enableEffect_cases s d a <;> rw [e]
  · unfold State.acceptEnable
    refine ite ?_ (h.changeDom (h.stats d))
    dsimp only
    refine parentArrived (h.changeDom ?_) d
    exact h.stats d
  · exact h

theorem enterOff (h : s.UnitsSound) (d : DomainId) {r : DomainRuntime} (hr : r.stats.Bounded) :
    (s.enterOff d r).1.UnitsSound :=
  (h.changeDom (r := { r with state := .off }) hr).startHold d

theorem clearFault (h : s.UnitsSound) (d : DomainId) : (s.clearFault d).1.UnitsSound :=
  ite (h.changeDom (h.stats d)) (h.changeDom (h.stats d))

theorem disableEffect (h : s.UnitsSound) (d : DomainId) : (s.disableEffect d).1.UnitsSound := by
  obtain ⟨-, e⟩ | ⟨-, -, -, e⟩ | ⟨-, -, e⟩ | e := disableEffect_cases s d <;> rw [e]
  · exact h.congr (units_notify s .pinnedHit)
  · exact ite (h.changeDom (h.stats d)) (h.enterOff d (h.stats d))
  · exact h.clearFault d
  · exact h

theorem faultEntry (h : s.UnitsSound) (d : DomainId) (c : FaultCause) : (s.faultEntry d c).1.UnitsSound := by
  refine startHold (h.changeDom ?_) d
  exact countFault_keepsBounds.count (h.stats d)

theorem faultAll (h : s.UnitsSound) (c : FaultCause) (ds : List DomainId) : (s.faultAll c ds).1.UnitsSound := by
  induction ds generalizing s with
  | nil => exact h
  | cons d ds ih => exact ih (h.faultEntry d c)

theorem faultDomain (h : s.UnitsSound) (d : DomainId) (c : FaultCause) : (s.faultDomain d c).1.UnitsSound :=
  (h.faultEntry d c).faultAll .parentLost (s.cascade d)

theorem waitExpiry (h : s.UnitsSound) (d : DomainId) (forOn : Bool) : (s.waitExpiry d forOn).1.UnitsSound := by
  have ht : (s.timedOut d).UnitsSound := h.setDom (countTimeout_keepsBounds.count (h.stats d))
  obtain ⟨-, -, e⟩ | ⟨-, e⟩ := waitExpiry_cases s d forOn <;> rw [e]
  · exact ht.faultDomain d .timeout
  · exact ht

theorem pgRise (h : s.UnitsSound) (d : DomainId) : (s.pgRise d).1.UnitsSound := by
  have hr : DomainStats.Bounded ({ s.dom d with pg := true } : DomainRuntime).stats := h.stats d
  obtain ⟨-, e⟩ | ⟨-, e⟩ | ⟨-, -, e⟩ | ⟨-, e⟩ := pgRise_cases s d <;> rw [e]
  · exact h
  · exact h.setDom hr
  · dsimp only
    refine parentArrived (changeDom (h.congr (units_notifyIf _ _ _)) ?_) d
    exact captureRise_bounded hr (s.cfg d) s.fine
  · refine congr ?_ (units_notify _ _)
    exact h.setDom (h.stats d)

theorem pgFall (h : s.UnitsSound) (d : DomainId) : (s.pgFall d).1.UnitsSound := by
  have hr : DomainStats.Bounded ({ s.dom d with pg := false } : DomainRuntime).stats := h.stats d
  obtain ⟨-, e⟩ | ⟨-, -, e⟩ | ⟨-, -, -, e⟩ | ⟨-, -, -, e⟩ | ⟨-, -, -, e⟩ := pgFall_cases s d <;> rw [e]
  · exact h
  · exact h.setDom hr
  · exact (h.setDom hr).faultDomain d .pgLost
  · exact (h.congr (units_notifyIf ..)).enterOff d (captureFall_bounded hr (s.cfg d) s.fine)
  · exact (h.setDom hr).tryPinned d

theorem holdExpiry (h : s.UnitsSound) (d : DomainId) : (s.holdExpiry d).1.UnitsSound := ite (h.setDom (h.stats d)) h

theorem overrangeExpiry (h : s.UnitsSound) (d : DomainId) : (s.overrangeExpiry d).1.UnitsSound :=
  ite (h.setDom (h.stats d)) h

theorem sweepDomain (h : s.UnitsSound) (d : DomainId) : (s.sweepDomain d).1.UnitsSound := by
  obtain ⟨-, e⟩ | ⟨-, -, e⟩ | ⟨-, -, -, e⟩ | ⟨-, -, -, e⟩ := sweepDomain_cases s d <;> rw [e]
  · exact h
  · exact h.clearFault d
  · exact h.changeDom (h.stats d)
  · exact h.enterOff d (h.stats d)

theorem sweepAll (h : s.UnitsSound) (ds : List DomainId) : (s.sweepAll ds).1.UnitsSound := by
  induction ds generalizing s with
  | nil => exact h
  | cons d ds ih => exact ih (h.sweepDomain d)

/-! ## Applies -/

theorem recordCopied (h : s.UnitsSound) (d : DomainId) (old new : DomainConfig) :
    (s.recordCopied d old new).UnitsSound := by
  have hcopied {u : State} (hu : u.UnitsSound) : (u.setDom d ((u.dom d).rewindow old new)).UnitsSound :=
    hu.setDom (hu.stats d)
  refine hcopied ?_
  unfold State.removeDomain
  split_ifs
  · exact h.changeDom (h.stats d)
  · exact h.setDom (h.stats d)
  · exact h

theorem copyDomainSet (h : s.UnitsSound) (ds : Vector DomainConfig 10) : (s.copyDomainSet ds).UnitsSound := by
  have hcopied : (s.recordsReplaced ds).UnitsSound :=
    List.foldlRecOn allDomains _ h.congr fun t ht d _ => State.UnitsSound.recordCopied ht d _ _
  rw [copyDomainSet_eq]
  refine List.foldlRecOn allDomains _ hcopied fun t ht d _ => ?_
  split
  · exact State.UnitsSound.tryPinned ht d
  · exact ht

theorem setOutcome (h : s.UnitsSound) (k : ItemId) {st : ApplyStatus} (hst : st ≠ .inProgress) :
    (s.setOutcome k st).UnitsSound :=
  h.withMark k (by simp [hst])

theorem applyDomains (h : s.UnitsSound) : s.applyDomains.UnitsSound := by
  refine setOutcome ?_ 7 (judgeDomainSet_ne_inProgress s _)
  split
  · exact h.copyDomainSet _
  · exact h

theorem applyPlan (h : s.UnitsSound) (k : SlotId) : (s.applyPlan k).UnitsSound := by
  refine setOutcome ?_ k.castSucc (judgePlan_ne_inProgress s k _)
  split
  · exact h.congr
  · exact h

theorem applyItems (h : s.UnitsSound) (sel : ItemId → Bool) : (s.applyItems sel).UnitsSound := by
  refine List.foldlRecOn _ _ ?_ fun t ht k _ => ?_
  · split
    · exact h.applyDomains
    · exact h
  · split
    · exact State.UnitsSound.applyPlan ht k
    · exact ht

theorem applySelected (h : s.UnitsSound) (sel : ItemId → Bool) : (s.applySelected sel).UnitsSound := by
  unfold State.applySelected
  split
  · exact (h.applyItems sel).congr (units_notify _ _)
  · exact h

theorem markItems (h : s.UnitsSound) (sel : ItemId → Bool) : (s.markItems sel).UnitsSound := by
  refine List.foldlRecOn _ _ h fun t ht k _ => ?_
  split
  · exact State.UnitsSound.withMark ht k (by simp)
  · exact ht

/-! ## The end of a step and of a plan -/

theorem leavePark (h : s.UnitsSound) : s.leavePark.UnitsSound := by
  obtain ⟨-, e⟩ | ⟨-, e⟩ := leavePark_cases s <;> rw [e]
  · exact h.enterPlatform _
  · exact h

theorem completeStep (h : s.UnitsSound) : s.completeStep.1.UnitsSound :=
  leavePark h.congr

theorem abort (h : s.UnitsSound) (c : AbortCause) : (s.abort c).1.UnitsSound := by
  refine enterPlatform ?_ .returning
  exact h.congr

theorem failStep (h : s.UnitsSound) : s.failStep.1.UnitsSound := by
  have hidle : (s.setWait .idle).UnitsSound := h.congr
  obtain ⟨-, e⟩ | ⟨t, -, ⟨-, e⟩ | ⟨-, e⟩ | ⟨-, e⟩⟩ := failStep_cases s <;> rw [e]
  · exact hidle
  · exact hidle.leavePark.congr
  · exact hidle.abort _
  · exact hidle

theorem expireWait (h : s.UnitsSound) : s.expireWait.1.UnitsSound := by
  obtain ⟨d, b, -, e⟩ | ⟨-, e⟩ | ⟨-, e⟩ | ⟨d, b, -, e⟩ | ⟨-, e⟩ | ⟨-, e⟩ := expireWait_cases s <;> rw [e]
  · exact (h.waitExpiry d b).failStep
  · exact h.completeStep
  · exact h.failStep
  · exact (h.waitExpiry d b).congr
  · exact h.congr
  · exact h

theorem waitFor (h : s.UnitsSound) (w : Wait) : (s.waitFor w).1.UnitsSound :=
  ite (expireWait h.congr) h.congr

theorem recordWait (h : s.UnitsSound) (w : Wait) (b : Nat) : (s.recordWait w b).1.UnitsSound := by
  refine waitFor ?_ w
  exact h.congr

theorem startEntry (h : s.UnitsSound) (t : LowState) : (s.startEntry t).1.UnitsSound := by
  have hentered : (State.enterPlatform { s.setUpPlan (entrySlot t) .check none with undo := [] } .checking).UnitsSound :=
    enterPlatform h.congr _
  exact ite (hentered.abort _) hentered

theorem startExit (h : s.UnitsSound) (c : WakeCause) : (s.startExit c).1.UnitsSound := by
  unfold State.startExit
  split
  · exact h
  · rename_i slot _
    have hexiting : (s.exiting slot c).UnitsSound := enterPlatform h.congr _
    exact ite hexiting.congr hexiting

theorem takeTrip (h : s.UnitsSound) (c : TripCause) : (s.takeTrip c).1.UnitsSound := by
  have ⟨_, _, hsecondary, _⟩ := h.counters
  have hadded : State.UnitsSound { s with trip := s.trip.add c } :=
    h.withTrip (TripRecord.add_secondary_le hsecondary c)
  obtain ⟨-, e⟩ | ⟨-, e⟩ | ⟨-, -, e⟩ := takeTrip_cases s c <;> rw [e]
  · exact hadded.congr
  · exact hadded
  · refine congr (enterPlatform ?_ .tripping) (units_notify _ _)
    exact hadded.congr

theorem enterRest (h : s.UnitsSound) (p : PlatformState) : (s.enterRest p).UnitsSound :=
  (h.enterPlatform p).congr

theorem completeEntry (h : s.UnitsSound) : s.completeEntry.1.UnitsSound := by
  have hrest : (State.enterRest { s with pendingWake := none } (entryRest s.ctx.slot)).UnitsSound :=
    enterRest h.congr _
  unfold State.completeEntry
  dsimp only
  split
  · exact hrest
  · exact hrest.startExit _

theorem completeExit (h : s.UnitsSound) : s.completeExit.1.UnitsSound := by
  have hrun : (State.enterRest { s with pendingRequest := false } .run).UnitsSound := enterRest h.congr _
  unfold State.completeExit
  dsimp only
  split
  · exact hrun.startEntry _
  · exact hrun
  · exact hrun

theorem completePlan (h : s.UnitsSound) : s.completePlan.1.UnitsSound := by
  have happlied : s.applyPendingItems.UnitsSound := h.applySelected _
  cases hp : s.ctx.portion with
  | none => simpa only [State.completePlan, hp] using h
  | check | commit => simpa only [State.completePlan, hp] using happlied.completeEntry
  | exit => simpa only [State.completePlan, hp] using happlied.completeExit
  | rollback =>
    simp only [State.completePlan, hp]
    exact enterRest happlied.congr .run
  | trip =>
    rw [completePlan_trip hp]
    exact ((h.sweepAll _).applySelected _).enterRest _

/-! ## Steps and undo records -/

theorem recordEmit (h : s.UnitsSound) (p : Port) (sig : Byte) (l : Level) : (s.recordEmit p sig l).UnitsSound :=
  (h.sendOwn p sig l).congr (units_setEmitted _ _ _ _)

theorem emitStep (h : s.UnitsSound) (p : Port) (sig : Byte) (l : Level) : (s.emitStep p sig l).UnitsSound := by
  refine recordEmit (s := if s.emitted p sig = l then s else _) ?_ p sig l
  split
  · exact h
  · exact h.congr (units_pushUndo _ _)

theorem enableAccepted (h : s.UnitsSound) (d : DomainId) : (s.enableAccepted d).1.UnitsSound := by
  rw [enableAccepted_eq]
  dsimp only
  refine completeStep ?_
  split
  · exact (h.enableEffect d _).congr (units_pushUndo _ _)
  · exact h.enableEffect d _

theorem enableStep (h : s.UnitsSound) (d : DomainId) : (s.enableStep d).1.UnitsSound := by
  unfold State.enableStep
  split
  · exact h.enableAccepted d
  · exact h.failStep
  · exact h.failStep
  · exact h.waitFor _

theorem disableStep (h : s.UnitsSound) (d : DomainId) : (s.disableStep d).1.UnitsSound := by
  cases hr : s.disableRefused d
  · rw [disableStep_eq s d hr]
    refine completeStep ?_
    split
    · exact (h.disableEffect d).congr (units_pushUndo _ _)
    · exact h.disableEffect d
  · simpa [State.disableStep, hr] using h.failStep

theorem guardStep (h : s.UnitsSound) (p : Port) (a : BitVec 4) (sig : Byte) (l : Level) :
    (s.guardStep p a sig l).1.UnitsSound := by
  unfold State.guardStep
  split
  · exact h.failStep
  · exact ite h.failStep (ite h.completeStep (h.waitFor _))

theorem commitStep (h : s.UnitsSound) : s.commitStep.1.UnitsSound :=
  completeStep (enterPlatform h.congr .committing)

theorem retryStep (h : s.UnitsSound) (t : Step) : (s.retryStep t).1.UnitsSound := by
  unfold State.retryStep
  split_ifs
  · exact h.completeStep
  · exact ite h.congr h.failStep
  · exact h.failStep

theorem stepAction (h : s.UnitsSound) (t : Step) : (s.stepAction t).1.UnitsSound := by
  unfold State.stepAction
  split
  case h_1 d _ _ => exact h.enableStep d
  case h_2 d _ _ => exact h.disableStep d
  case h_3 d _ _ => exact ite h.completeStep (h.waitFor _)
  case h_4 d _ _ => exact ite h.completeStep (h.waitFor _)
  case h_5 p _ _ => exact ite (h.emitStep p _ _).completeStep (h.waitFor _)
  case h_6 p _ _ => exact ite h.completeStep (h.waitFor _)
  case h_7 p _ _ => exact h.guardStep p _ _ _
  case h_8 => exact h.waitFor _
  case h_9 => exact (h.enterPlatform _).waitFor _
  case h_10 => exact h.commitStep
  case h_11 => exact h.retryStep t
  all_goals exact h.failStep

theorem startStep (h : s.UnitsSound) (i : Nat) : (s.startStep i).1.UnitsSound := by
  obtain ⟨-, e⟩ | ⟨p, -, -, e⟩ | ⟨p, t, -, -, e⟩ := startStep_cases s i <;> rw [e]
  · exact h
  · exact h.completePlan
  · exact stepAction h.congr t

theorem recordEnabled (h : s.UnitsSound) (d : DomainId) : (s.recordEnabled d).1.UnitsSound := by
  have henabled := h.enableEffect d .accepted
  exact ite henabled.congr (henabled.recordWait _ _)

theorem recordOn (h : s.UnitsSound) (d : DomainId) : (s.recordOn d).1.UnitsSound := by
  unfold State.recordOn
  split
  · exact h.recordEnabled d
  all_goals exact h.congr

theorem recordOff (h : s.UnitsSound) (d : DomainId) : (s.recordOff d).1.UnitsSound := by
  cases hr : s.disableRefused d
  · have hdisabled := h.disableEffect d
    rw [recordOff_eq s d hr]
    exact ite hdisabled.congr (ite hdisabled.congr (hdisabled.recordWait _ _))
  · simp only [State.recordOff, hr, if_true]
    exact h.congr

theorem recordSignal (h : s.UnitsSound) (p : Port) (sig : Byte) (l : Level) : (s.recordSignal p sig l).1.UnitsSound :=
  ite ((h.recordEmit p sig l).congr) (h.recordWait _ _)

theorem nextRecord (h : s.UnitsSound) : s.nextRecord.1.UnitsSound := by
  unfold State.nextRecord
  split
  · exact h.completePlan
  · dsimp only
    split
    · exact recordOn h.congr _
    · exact recordOff h.congr _
    · exact recordSignal h.congr _ _ _

/-! ## Reports of the domain controller -/

theorem pinnedWaitTest (h : s.UnitsSound) : s.pinnedWaitTest.1.UnitsSound := ite h.congr h

theorem takeOn (h : s.UnitsSound) (d : DomainId) : (s.takeOn d).1.UnitsSound :=
  ite h.completeStep (ite h.congr h.pinnedWaitTest)

theorem takeOff (h : s.UnitsSound) (d : DomainId) : (s.takeOff d).1.UnitsSound :=
  ite h.completeStep (ite h.congr h)

theorem takeFault (h : s.UnitsSound) (d : DomainId) (c : Bool) : (s.takeFault d c).1.UnitsSound :=
  ite (h.takeTrip _) h.pinnedWaitTest

theorem takeOverrange (h : s.UnitsSound) (d : DomainId) : (s.takeOverrange d).1.UnitsSound :=
  ite (ite h.congr h) (ite h.congr h)

theorem judgeDeferred (h : s.UnitsSound) (d : DomainId) : (s.judgeDeferred d).1.UnitsSound := by
  unfold State.judgeDeferred
  refine ite ?_ (ite ?_ h)
  · split
    · exact h.enableAccepted d
    · exact h.failStep
    · exact h.failStep
    · exact h
  · split
    · exact h.recordEnabled d
    all_goals exact h.congr

/-! ## Effects of the classifier -/

theorem newRequest (h : s.UnitsSound) (r : Requested) : (s.newRequest r).1.UnitsSound := by
  unfold State.newRequest
  cases r with
  | run =>
    dsimp only
    split
    case h_1 | h_2 => exact h.abort .cancel
    case h_4 | h_5 | h_6 => exact h.startExit .hub
    all_goals exact h.congr
  | low t =>
    dsimp only
    split
    case h_1 => exact h.startEntry t
    case h_2 | h_3 => exact h.congr (units_notifyIf _ _ _)
    all_goals exact h.congr

theorem requestEffect (h : s.UnitsSound) : s.requestEffect.1.UnitsSound :=
  ite h (newRequest h.congr _)

theorem tripEffect (h : s.UnitsSound) (l : Level) : (s.tripEffect l).1.UnitsSound := ite (h.takeTrip _) h

theorem vetoEffect (h : s.UnitsSound) (l : Level) : (s.vetoEffect l).1.UnitsSound := ite (h.abort _) h

theorem releaseEffect (h : s.UnitsSound) (l : Level) : (s.releaseEffect l).1.UnitsSound := ite h.completeStep h

theorem levelReport (h : s.UnitsSound) (p : Port) (a : BitVec 4) (sig : Byte) (l : Level) :
    (s.levelReport p a sig l).1.UnitsSound := ite h.completeStep h

/-! ## Arrivals -/

theorem arrival (h : s.UnitsSound) (n : SourceId) : (s.arrival n).1.UnitsSound := by
  have hcaptured : (s.capture n (s.judgeArrival n)).UnitsSound :=
    (h.setCapture n ((h.captures n).arrive ..)).congr (units_notify _ _)
  refine ite ?_ h
  cases hj : s.judgeArrival n <;> rw [hj] at hcaptured
  case none => exact hcaptured
  case woke => exact hcaptured.startExit _
  case aborted => exact hcaptured.abort _
  case pended => exact hcaptured.congr

theorem arrivals (h : s.UnitsSound) (ns : List SourceId) : (s.arrivals ns).1.UnitsSound := by
  induction ns generalizing s with
  | nil => exact h
  | cons n ns ih => exact ih (h.arrival n)

theorem wakeEffect (h : s.UnitsSound) (n : SourceId) (l : Level) : (s.wakeEffect n l).1.UnitsSound := ite (h.arrival n) h

theorem vetoWakeEffect (h : s.UnitsSound) (n : SourceId) (l : Level) : (s.vetoWakeEffect n l).1.UnitsSound :=
  (h.vetoEffect l).wakeEffect n l

/-! ## Events of the sequencer's own waits -/

theorem emitPlaced (h : s.UnitsSound) : s.emitPlaced.1.UnitsSound := by
  unfold State.emitPlaced
  split
  · exact ite (h.emitStep _ _ _).completeStep h
  · exact h

theorem syncComplete (h : s.UnitsSound) : s.syncComplete.1.UnitsSound := by
  unfold State.syncComplete
  split
  · exact ite h.completeStep h
  · exact h

theorem rollbackPlaced (h : s.UnitsSound) : s.rollbackPlaced.1.UnitsSound := by
  unfold State.rollbackPlaced
  split
  · exact ite ((h.recordEmit _ _ _).congr) h
  · exact h

theorem portWentDown (h : s.UnitsSound) (p : Port) : (s.portWentDown p).1.UnitsSound := by
  unfold State.portWentDown
  split
  · exact ite (h.emitStep _ _ _).completeStep h
  · exact ite h.completeStep h
  · exact ite ((h.recordEmit _ _ _).congr) h
  · exact h

theorem expireIf (h : s.UnitsSound) (k : Wait → Bool) : (s.expireIf k).1.UnitsSound := ite h.expireWait h

end State.UnitsSound

end Sys2Proof.Machine
end

section
/-! # Every step keeps the units sound -/

-- One declaration at a time: the threads that would wait for the kernel go past the limit on memory.
set_option Elab.async false

namespace Sys2Proof.Machine

open Sys2Proof

/-! ## Fields of a written record -/

/-- R184: a written record has the values that the write carries, and its own where the write has none. -/
theorem mergeFields_getElem? (vs : List Nat) (ws : List (Option Nat)) (i : Nat) :
    (mergeFields vs ws)[i]? = vs[i]?.map ((ws.getD i none).getD ·) := by
  induction vs generalizing ws i with
  | nil => cases ws <;> simp [mergeFields]
  | cons v vs ih =>
    cases ws with
    | nil => simp [mergeFields]
    | cons w ws =>
      cases i with
      | zero => simp [mergeFields]
      | succ i => simpa [mergeFields] using ih ws i

theorem agentRecordOf_misses {l : List Nat} {a : AgentRecord} (e : agentRecordOf l = some a) : l[2]? = some a.misses := by
  unfold agentRecordOf at e
  split at e
  · simp only [Option.bind_eq_bind, Option.bind_eq_some_iff, Option.some.injEq] at e
    obtain ⟨_, -, _, -, rfl⟩ := e
    rfl
  · simp at e

/-! ## Values at power-on (R19) -/

theorem romSignals_sound {s : State} (h : s.signals = romSignals) : s.SignalsSound := by
  unfold State.SignalsSound State.KeysDistinct SignalEntry.Sound
  rw [h]
  decide +kernel

theorem romWakes_button : romWakes.get 0 = wakeRecord0 := by
  decide +kernel

theorem resetIndicator_sound : resetIndicator.SoundAt (patternOf .softOff) := by
  unfold IndicatorUnit.SoundAt
  decide +kernel

namespace State.UnitsSound

variable {s t : State}

/-! ## The button -/

theorem buttonFalls (h : s.UnitsSound) : s.buttonFalls.UnitsSound := by
  have hbutton := h.button.buttonFalls
  unfold State.buttonFalls at hbutton ⊢
  split_ifs at hbutton ⊢
  · exact h
  · exact h.setButton hbutton
  · exact h.setButton hbutton

/-- R123: an emission in a hold leaves the mark as the placed level says, or clear. -/
theorem buttonEmit (h : s.UnitsSound) {b : ButtonUnit} {l : Level}
    (hb : ∀ m, (m = true → l = .asserted) → (s.setButton { b with hubMark := m }).ButtonSound) :
    ((s.setButton b).buttonEmit l).UnitsSound := by
  obtain ⟨-, e⟩ | ⟨-, e⟩ := buttonEmit_cases (s.setButton b) l <;> rw [e]
  · refine (h.setButton (hb (l == .asserted) (by simp))).congr ?_
    simp [State.units, State.setButton]
  · exact (h.discard .up 1).setButton (hb false (by simp))

theorem buttonRises (h : s.UnitsSound) : s.buttonRises.UnitsSound := by
  obtain ⟨htimes, hforce, -, hmark⟩ := h.button
  have hidle (m : Bool) (hm : m = false) :
      (s.setButton { s.button with low := false, hold := .idle, hubMark := m }).ButtonSound :=
    ⟨htimes, hforce, fun hne => absurd rfl hne, fun hm' => absurd hm' (by simp [State.setButton, hm])⟩
  have hcleared : ((s.setButton { s.button with low := false, hold := .idle }).buttonEmit .deasserted).UnitsSound :=
    h.buttonEmit fun m hm => hidle m (by simpa using hm)
  have hkept (hm : s.button.hubMark = false) :
      (s.setButton { s.button with low := false, hold := .idle }).UnitsSound :=
    h.setButton (hidle s.button.hubMark hm)
  have hunmarked (hne : ¬ (s.button.hold = .held ∨ s.button.hold = .overridden)) : s.button.hubMark = false :=
    Bool.eq_false_iff.mpr (mt hmark hne)
  unfold State.buttonRises
  split
  · exact h
  · dsimp only
    split
    · rename_i hh
      exact hkept (hunmarked (by simp [hh]))
    · rename_i hh
      exact hkept (hunmarked (by simp [hh]))
    all_goals
      split
      · exact hcleared
      · exact hkept (Bool.eq_false_iff.mpr ‹_›)

theorem recognize (h : s.UnitsSound) : s.recognize.1.UnitsSound := by
  obtain ⟨htimes, hforce, hlow, -⟩ := h.button
  unfold State.recognize
  split
  · exact h
  · rename_i hdue
    have hhold : s.button.hold = .debouncing := by
      simp only [State.debounceDue, Bool.not_eq_true, Bool.not_eq_false', Bool.and_eq_true, beq_iff_eq] at hdue
      exact hdue.1
    have hline : s.button.low = true := hlow (by simp [hhold])
    have hheld (m : Bool) : (s.setButton { s.button with hold := .held, hubMark := m }).ButtonSound :=
      ⟨htimes, hforce, fun _ => hline, fun _ => .inl rfl⟩
    exact ite (h.buttonEmit fun m _ => hheld m) (h.setButton (hheld s.button.hubMark))

theorem overrideActs (h : s.UnitsSound) : s.overrideActs.1.UnitsSound := by
  obtain ⟨htimes, hforce, hlow, -⟩ := h.button
  unfold State.overrideActs
  split
  · exact h
  · rename_i hdue
    have hhold : s.button.hold = .held := by
      simp only [State.overrideDue, Bool.not_eq_true, Bool.not_eq_false', Bool.and_eq_true, beq_iff_eq] at hdue
      exact hdue.1
    exact h.setButton ⟨htimes, hforce, fun _ => hlow (by simp [hhold]), fun _ => .inr rfl⟩

/-! ## The configuration unit -/

theorem writeSignal (h : s.UnitsSound) (i : Fin 64) (sel : List (Option Nat)) : (s.writeSignal i sel).1.UnitsSound := by
  have hsignals := h.signals.writeSignal i sel
  unfold State.writeSignal at hsignals ⊢
  dsimp only at hsignals ⊢
  split at hsignals
  · exact h
  · split at hsignals
    · rw [if_pos ‹_›]
      exact h
    · rw [if_neg ‹_›]
      exact h.withSignals hsignals

/-- R103: a write to W0 leaves its record. -/
theorem writeWake (h : s.UnitsSound) (n : SourceId) (sel : List (Option Nat)) : (s.writeWake n sel).1.UnitsSound := by
  have hsource : (s.writeWake n sel).1.ButtonSourceFixed := (State.Spares.writeWake s n sel).source.trans h.source
  unfold State.writeWake at hsource ⊢
  obtain ⟨hsignals, -, hcaptures, hmarks, hcounters, hbutton, hindicator⟩ := h
  split_ifs at hsource ⊢
  · exact ⟨hsignals, hsource, hcaptures, hmarks, hcounters, hbutton, hindicator⟩
  · exact ⟨hsignals, hsource, hcaptures, hmarks, hcounters, hbutton, hindicator⟩
  · split at hsource <;> exact ⟨hsignals, hsource, hcaptures, hmarks, hcounters, hbutton, hindicator⟩

/-- R160: a write leaves the miss counter or clears it. -/
theorem writeAgent (h : s.UnitsSound) (i : Fin 14) (sel : List (Option Nat)) : (s.writeAgent i sel).1.UnitsSound := by
  obtain ⟨-, hagents, -⟩ := h.counters
  unfold State.writeAgent
  split
  · exact h
  · rename_i hzero
    split
    · rename_i a ha
      have hmisses : a.misses ≤ (s.agents.get i).misses := by
        have hfield := (agentRecordOf_misses ha).symm.trans (mergeFields_getElem? ..)
        cases hsel : sel.getD 2 none with
        | none => simp_all [AgentRecord.fields]
        | some v => simp_all [AgentRecord.fields]
      refine h.withAgents fun j => ?_
      rw [get_set]
      split
      · exact hmisses.trans (hagents i)
      · exact hagents j
    · exact h

theorem setPattern (h : s.UnitsSound) (k : Fin 4) {q : IndPattern} (hq : q.wf = true) : (s.setPattern k q).UnitsSound :=
  h.withIndicator (IndicatorUnit.SoundAt.write h.indicator k hq)

theorem setTimes (h : s.UnitsSound) {x : Nat × Nat} (hx : buttonTimesWf x.1 x.2 = true) : (s.setTimes x).UnitsSound := by
  obtain ⟨-, hforce, hlow, hmark⟩ := h.button
  exact h.setButton ⟨hx, hforce, hlow, hmark⟩

theorem writePattern (h : s.UnitsSound) (k : Fin 4) (sel : List (Option Nat)) :
    (s.writePattern k sel).1.UnitsSound := by
  have hpattern (q : Option IndPattern) : s.writtenPattern k sel = q →
      State.UnitsSound (match q with | some q => s.setPattern k q | none => s) := by
    intro hq
    cases q with
    | none => exact h
    | some q => exact h.setPattern k (writtenPattern_wf hq)
  have htimes {u : State} (hu : u.UnitsSound) (x : Option (Nat × Nat)) : s.writtenTimes sel = x →
      State.UnitsSound (match x with | some x => u.setTimes x | none => u) := by
    intro hx
    cases x with
    | none => exact hu
    | some x => exact hu.setTimes (writtenTimes_wf hx)
  unfold State.writePattern
  split
  · exact h
  · exact h
  · refine ite h ?_
    have hfirst : State.UnitsSound (if selectsPattern sel then
        (match s.writtenPattern k sel with | some q => s.setPattern k q | none => s) else s) := by
      split
      · exact hpattern _ rfl
      · exact h
    dsimp only [accept]
    split
    · exact htimes hfirst _ rfl
    · exact hfirst

theorem clearCounters (h : s.UnitsSound) : s.clearCounters.UnitsSound := by
  obtain ⟨hsignals, hsource, hcaptures, hmarks, ⟨-, -, hrest⟩, hbutton, hindicator⟩ := h
  refine ⟨hsignals, hsource, hcaptures, hmarks, ⟨fun p => ?_, fun i => ?_, hrest⟩, hbutton, hindicator⟩
  · cases p <;> exact ⟨Nat.zero_le _, Nat.zero_le _⟩
  · simp [State.clearCounters, get_eq_getElem]

theorem command (h : s.UnitsSound) (code arg : Nat) : (s.command code arg).1.UnitsSound := by
  unfold State.command
  split
  case h_1 =>
    split_ifs
    · exact h
    · exact h
    · exact h.applySelected _
  case h_2 =>
    split_ifs
    · exact h
    · exact h.markItems _
  case h_3 => split_ifs <;> exact h.congr
  case h_4 => split_ifs <;> exact h.congr
  case h_5 => exact h.congr
  case h_6 => exact h.withTrip (Nat.zero_le _)
  case h_7 => exact h.clearCounters
  case h_8 => exact h

theorem writeHeader (h : s.UnitsSound) (k : SlotId) (sel : List (Option Nat)) : (s.writeHeader k sel).1.UnitsSound := by
  unfold State.writeHeader
  dsimp only
  split
  · split_ifs <;> exact h.congr
  · exact h

theorem writeTable (h : s.UnitsSound) (table index : Nat) (sel : List (Option Nat)) :
    (s.writeTable table index sel).1.UnitsSound := by
  unfold State.writeTable
  split
  · exact h.command _ _
  · split
    · exact h.writeHeader _ _
    · exact h
  · split
    · unfold State.writeStep
      dsimp only
      split <;> exact h.congr
    · exact h
  · split
    · unfold State.writeDomain
      split <;> exact h.congr
    · exact h
  · split
    · unfold State.writeCounting
      split
      · exact h.setDom (setCounting_bounded (h.stats _) _)
      · exact h
    · exact h
  · split
    · exact h.writeSignal _ _
    · exact h
  · split
    · exact h.writeWake _ _
    · exact h
  · split
    · exact h.writeAgent _ _
    · exact h
  · split
    · exact h.writePattern _ _
    · exact h
  · exact h

theorem execute (h : s.UnitsSound) (f : Frame) : (s.execute f).1.UnitsSound := by
  have hread (table index : Nat) : (s.executeRead table index).1.UnitsSound := by
    unfold State.executeRead State.afterRead
    refine ite h (ite h ?_)
    dsimp only
    split
    · exact h
    · exact h.setDom (h.stats _)
  unfold State.execute
  dsimp only
  split
  · obtain e | ⟨n, -, -, e⟩ | ⟨sel, -, -, -, -, -, -, e⟩ := executeWrite_cases s (f.body.getD 0 0).toNat
      (f.body.getD 1 0).toNat f.mask (f.body.drop 4) <;> rw [e]
    · exact h
    · exact h.setCapture n clearCapture_sound
    · exact h.writeTable _ _ sel
  all_goals exact hread _ _

theorem serveRequest (h : s.UnitsSound) : s.serveRequest.UnitsSound := by
  obtain ⟨f, rest, -, -, e⟩ | e := serveRequest_cases s <;> rw [e]
  · exact (execute (h.congr (units_setQueue s .cfgIn rest)) f).respond _
  · exact h

/-! ## Work and events -/

theorem micro (h : s.UnitsSound) (w : Work) : (micro w s).1.UnitsSound := by
  cases w with
  | start i => exact h.startStep i
  | rollback => exact h.nextRecord
  | onReport d => exact h.takeOn d
  | offReport d => exact h.takeOff d
  | faultReport d c => exact h.takeFault d c
  | overrangeReport d => exact h.takeOverrange d
  | holdOver d => exact (h.judgeDeferred d).tryPinned d
  | tripCause c => exact h.takeTrip c
  | arrival n => exact h.arrival n
  | levelReport p a g l => exact h.levelReport p a g l
  | requestEffect => exact h.requestEffect
  | tripEffect l => exact h.tripEffect l
  | vetoEffect l => exact h.vetoEffect l
  | releaseEffect l => exact h.releaseEffect l
  | wakeEffect n l => exact h.wakeEffect n l
  | vetoWakeEffect n l => exact h.vetoWakeEffect n l
  | carry fate f => exact h.carryFate fate f
  | judge p => exact h.judgeHead p
  | portDown p => exact h.portWentDown p
  | serve => exact h.serveRequest
  | settle b => exact h.congr (units_settle s b)

/-- An event that begins with the units sound ends with them sound. -/
theorem finish {b : Before} {a : Act} (h : a.1.UnitsSound) (e : finish b a = .next t) : t.UnitsSound :=
  event_keeps (P := fun _ u => u.UnitsSound) (fun w _ _ hu => hu.micro w) h e

/-- R19: the units are sound at power-on. -/
theorem powerOn (s : State) (strap : Strap) (wakeA wakeB low : Bool) (pg : BitVec 10) :
    (s.powerOn strap wakeA wakeB low pg).UnitsSound where
  signals := romSignals_sound rfl
  source := romWakes_button
  captures n := by
    have hclear : (s.powerOn strap wakeA wakeB low pg).captures.get n = clearCapture := by
      simp [State.powerOn, State.reset, get_eq_getElem]
    rw [hclear]
    exact clearCapture_sound
  marks k := by simp [State.powerOn, State.reset, get_eq_getElem]
  counters := by
    refine ⟨fun p => ?_, fun i => ?_, Nat.zero_le _, fun d => ?_⟩
    · cases p <;> exact ⟨Nat.zero_le _, Nat.zero_le _⟩
    · simp [State.powerOn, State.reset, get_eq_getElem, romAgent]
    · have hdom : (s.powerOn strap wakeA wakeB low pg).dom d = poweredDomain pg d := by
        simp [State.powerOn, State.dom, get_eq_getElem]
      have hstats : (poweredDomain pg d).stats = zeroStats := by
        unfold poweredDomain
        dsimp only
        split <;> rfl
      rw [hdom, hstats]
      exact zeroStats_bounded
  button := ⟨rfl, rfl, fun hne => absurd rfl hne, nofun⟩
  indicator := resetIndicator_sound

/-! ## Commands -/

theorem exec (h : s.UnitsSound) {c : Instr} (e : exec c s = .next t) : t.UnitsSound := by
  cases c with
  | powerOnReset strap wakeA wakeB low pg =>
    have hon := powerOn s strap wakeA wakeB low pg
    cases strap
    · exact (hon.startExit _).finish e
    · exact finish (a := (s.powerOn .stayOff wakeA wakeB low pg, [])) hon e
  | linkUp p =>
    simp only [Machine.exec, execLinkUp] at e
    split at e
    · exact Host.Outcome.next.inj e ▸ h
    · exact finish (a := (s.linkGoesUp p, [])) (h.setPort (h.counts p)) e
  | linkDown p =>
    simp only [Machine.exec, execLinkDown] at e
    split at e
    · exact (h.linkGoesDown p).finish e
    · exact Host.Outcome.next.inj e ▸ h
  | frameReceived p bytes => exact (h.receive p bytes).finish e
  | frameTaken p => exact finish (a := (s, [.judge p])) h e
  | partnerReadyAsserted p => exact finish (a := (s.setPartnerReady p true, [])) (h.setPort (h.counts p)) e
  | partnerReadyDeasserted p => exact finish (a := (s.setPartnerReady p false, [])) (h.setPort (h.counts p)) e
  | transmissionEnd p => exact finish (a := (s.endTransmission p, [])) (h.setPort (h.counts p)) e
  | noteQueued => exact finish (a := (s.tryNote, [])) (h.congr (units_tryNote s)) e
  | emitFramePlaced => exact h.emitPlaced.finish e
  | syncComplete => exact h.syncComplete.finish e
  | rollbackSignalPlaced => exact h.rollbackPlaced.finish e
  | pgRise d => exact (h.pgRise d).finish e
  | pgFall d => exact (h.pgFall d).finish e
  | holdOffExpiry d => exact (h.holdExpiry d).finish e
  | overrangeExpiry d => exact (h.overrangeExpiry d).finish e
  | budgetExpiry => exact (h.expireIf _).finish e
  | parkLimit => exact (h.expireIf _).finish e
  | rollbackWaitExpiry => exact (h.expireIf _).finish e
  | wakeLineAssertion l => exact finish (ite (c := s.line l = true) h (arrivals (h.congr (units_setLine s l true)) _)) e
  | wakeLineFallingEdge l => exact Host.Outcome.next.inj e ▸ h.congr (units_setLine s l false)
  | pressEdge => exact Host.Outcome.next.inj e ▸ h.buttonFalls
  | release => exact finish (a := (s.buttonRises, [])) h.buttonRises e
  | debounceExpiry => exact h.recognize.finish e
  | overrideExpiry => exact h.overrideActs.finish e
  | indicatorPhaseAdvance =>
    exact Host.Outcome.next.inj e ▸ h.withIndicator (IndicatorUnit.SoundAt.advance h.indicator)
  | applyNow | applyAtRest | clearNotices | setNoticeEnable | restoreStaged | clearTripRecord | clearCounters
  | stagedWrite | signalTableWrite | wakeTableWrite | captureRecordClear | agentTableWrite | countingEnableWrite
  | indicatorPatternWrite | buttonTimesWrite | domainStatusRead | cfgWr => exact (h.offerRequest _).finish e

end State.UnitsSound

end Sys2Proof.Machine

open Sys2Proof Sys2Proof.Machine in
/-- Settles O57: every piece of work keeps the units sound, and so does every command's beginning. -/
theorem stepKeepsUnitsSound : Obligations.StepKeepsUnitsSound := by
  rintro s t ⟨hsignals, hsource, hcaptures, hmarks, hcounters, hbutton, hindicator⟩ hstep
  have hs : s.UnitsSound := ⟨hsignals, hsource, hcaptures, hmarks, hcounters, hbutton, hindicator⟩
  have ht : t.UnitsSound := step_keeps (P := State.UnitsSound) (fun _ _ _ h e => h.exec e) (fun _ _ h => h.congr)
    (fun _ h => h.congr) hs hstep
  exact ⟨ht.signals, ht.source, ht.captures, ht.marks, ht.counters, ht.button, ht.indicator⟩
end

section
/-! # The classifier: the matching entry, the fate of a signal frame, and what its taking reports -/

-- One declaration at a time: the threads that would wait for the kernel go past the limit on memory.
set_option Elab.async false

namespace Sys2Proof.Machine

open Sys2Proof

/-! ## The matching entry (R136) -/

/-- R133, R136: a search finds the one entry with the key. -/
theorem findSignal_unique {s : State} {p : Port} {a : BitVec 4} {n : Byte} {i : Fin 64}
    (hi : (s.signals.get i).hasKey p a n = true) (hunique : ∀ j, (s.signals.get j).hasKey p a n = true → j = i) :
    s.findSignal p a n = some i := by
  cases hf : s.findSignal p a n with
  | none => exact absurd hi (List.find?_eq_none.mp hf i (List.mem_finRange i))
  | some j => rw [hunique j (findSignal_hasKey hf)]

theorem findSignal_none {s : State} {p : Port} {a : BitVec 4} {n : Byte}
    (h : ∀ i, ¬ (s.signals.get i).hasKey p a n = true) : s.findSignal p a n = none :=
  List.find?_eq_none.mpr fun i _ => h i

section Matching

variable {s : State} {p : Port} {f : Frame} {e : SignalEntry}

theorem lookup_of_find {i : Fin 64} (h : s.findSignal p f.source f.signal = some i) :
    s.lookup p f.source f.signal = some (s.signals.get i) := by
  simp [State.lookup, h]

theorem lookup_eq_none : s.lookup p f.source f.signal = none ↔ s.findSignal p f.source f.signal = none := by
  simp [State.lookup]

theorem sigAction_of_lookup (h : s.lookup p f.source f.signal = some e) : s.sigAction p f = e.action := by
  simp [State.sigAction, h]

/-- R136: a frame that matches no entry goes under PASS. -/
theorem sigAction_unmatched (h : s.lookup p f.source f.signal = none) : s.sigAction p f = .pass := by
  simp [State.sigAction, h]

/-- R142: a frame is renumbered under MAP alone. -/
theorem forwarded_of_lookup (h : s.lookup p f.source f.signal = some e) :
    s.forwarded p f = if e.action = .map then { f with body := e.newNumber :: f.body.drop 1 } else f := by
  simp [State.forwarded, h, Frame.withSignal]

theorem forwarded_unmatched (h : s.lookup p f.source f.signal = none) : s.forwarded p f = f := by
  simp [State.forwarded, h]

end Matching

/-! ## The fate of a signal frame (R137) -/

theorem toAgent_iff (f : Frame) : f.toAgent = true ↔ f.dest ≠ 0 ∧ f.dest ≠ 15 := by
  have := f.dest.isLt
  simp only [Frame.toAgent, Bool.and_eq_true, decide_eq_true_eq, ne_eq, ← BitVec.toNat_inj]
  change _ ↔ f.dest.toNat ≠ 0 ∧ f.dest.toNat ≠ 15
  omega

theorem toAgent_eq_false (f : Frame) : f.toAgent = false ↔ f.dest = 0 ∨ f.dest = 15 := by
  rw [Bool.eq_false_iff, Ne, toAgent_iff]
  tauto

theorem fate_of_sig {f : Frame} (h : f.kind = .sig) (s : State) (p : Port) : s.fate p f = s.sigFate p f := by
  cases p <;> simp [State.fate, State.upFate, State.dnFate, h]

/-- R137: a signal frame under DROP is consumed. -/
theorem sigFate_drop {s : State} {p : Port} {f : Frame} (h : s.sigAction p f = .drop) : s.sigFate p f = .consume :=
  if_pos h

/-- R137: a signal frame from UP goes to the agent that it names, if the agent is there. -/
theorem sigFate_up {s : State} {f : Frame} (h : s.sigAction .up f ≠ .drop) :
    s.sigFate .up f =
      if f.toAgent then if s.agentPowered f.dest then .place .dnFwd (s.forwarded .up f) else .miss f.dest
      else .consume :=
  if_neg h

/-- R137: a signal frame from DN goes to the hub, if the link to it is up. -/
theorem sigFate_dn {s : State} {f : Frame} (h : s.sigAction .dn f ≠ .drop) :
    s.sigFate .dn f =
      if f.dest = 0 then if s.up.linkUp then .place .upFwdSig (s.forwarded .dn f) else .discardUp else .consume :=
  if_neg h

end Sys2Proof.Machine

open Sys2Proof Sys2Proof.Machine in
/-- Settles O11: the search finds the one entry with the key, whose action and the frame's port, destination and agent
say the fate. -/
theorem signalFates : Obligations.SignalFates := by
  rintro s f g p hk rfl
  rw [fate_of_sig hk]
  refine ⟨sigFate_drop, fun hd => ⟨?noAgent, ?powered, ?absent, ?hub, ?down, ?noHub⟩, fun e he => ?entry,
    forwarded_unmatched, ?keyed⟩
  case noAgent =>
    rintro rfl hdest
    simp [sigFate_up hd, (toAgent_eq_false f).mpr hdest]
  case powered =>
    rintro rfl h0 h15 hp
    simp [sigFate_up hd, (toAgent_iff f).mpr ⟨h0, h15⟩, hp]
  case absent =>
    rintro rfl h0 h15 hp
    simp [sigFate_up hd, (toAgent_iff f).mpr ⟨h0, h15⟩, hp]
  case hub =>
    rintro rfl hdest hl
    simp [sigFate_dn hd, hdest, hl]
  case down =>
    rintro rfl hdest hl
    simp [sigFate_dn hd, hdest, hl]
  case noHub =>
    rintro rfl hdest
    exact (sigFate_dn hd).trans (if_neg hdest)
  case entry =>
    rw [forwarded_of_lookup he]
    exact ⟨fun hmap => if_pos hmap, fun hmap => if_neg hmap⟩
  case keyed =>
    intro keyed
    have hkeyed (i : Fin 64) : (s.signals.get i).hasKey p f.source f.signal = true ↔ keyed i := hasKey_iff
    refine ⟨fun i hi hunique => ?_, fun hnone => ?_⟩
    · have hfind := findSignal_unique ((hkeyed i).mpr hi) fun j hj => hunique j ((hkeyed j).mp hj)
      exact ⟨hfind, lookup_of_find hfind, sigAction_of_lookup (lookup_of_find hfind)⟩
    · have hfind := findSignal_none fun i hi => hnone i ((hkeyed i).mp hi)
      have hlookup := lookup_eq_none.mpr hfind
      exact ⟨hfind, hlookup, sigAction_unmatched hlookup⟩

namespace Sys2Proof.Machine

open Sys2Proof

/-! ## A signal frame is taken (R138 to R142) -/

theorem carryFate_headsEmpty {s : State} (h : s.HeadsEmpty) (fate : Fate) (f : Frame) :
    (s.carryFate fate f).HeadsEmpty := by
  have enqueued {t : State} (ht : t.HeadsEmpty) (q : QueueId) (g : Frame) : (t.enqueue q g).HeadsEmpty :=
    headsEmpty_of_ports ht (State.enqueue_up ..) (State.enqueue_dn ..)
  have missed (a : BitVec 4) : (s.countMiss a).HeadsEmpty := by
    unfold State.countMiss
    split <;> exact h
  cases fate with
  | consume => exact h
  | miss a => exact missed a
  | noAgent a => exact enqueued (missed a) _ _
  | discardUp => exact h
  | place q g => exact enqueued h _ _
  | deny => exact enqueued h _ _

theorem comesTo_carry {s : State} (h : s.HeadsEmpty) (fate : Fate) (f : Frame) :
    comesTo (s, [.carry fate f]) (s.carryFate fate f) :=
  ⟨1, by decide, quiesce_one rfl, carryFate_headsEmpty h fate f⟩

/-- R34, R140: a level that no GUARD step watches is reported to no effect. -/
theorem comesTo_report_carry {s : State} (h : s.HeadsEmpty) (hw : s.ctx.wait = .idle) (p : Port) (a : BitVec 4) (n : Byte)
    (l : Level) (fate : Fate) (f : Frame) :
    comesTo (s, [.levelReport p a n l, .carry fate f]) (s.carryFate fate f) := by
  have hreport : micro (.levelReport p a n l) s = (s, []) := if_neg (by simp [hw])
  exact ⟨2, by decide, quiesce_append (quiesce_one hreport) (quiesce_one rfl), carryFate_headsEmpty h fate f⟩

/-- R138 to R142: the frame at a head is taken with the fate judged before it came, and its level is written. -/
theorem judgeHead_signal {s : State} {p : Port} {f : Frame} (hhead : (s.port p).head = none) (hk : f.kind = .sig)
    (hfits : s.fits (s.fate p f) = true) :
    (s.setPort p { s.port p with head := some f }).judgeHead p
      = (s.writeLevel p f.source f.signal f.level, s.sigReports p f ++ [.carry (s.fate p f) f]) := by
  have hport := State.port_setPort_self s p { s.port p with head := some f }
  have hfits' : (s.setPort p { s.port p with head := some f }).fits (s.fate p f) = true := by
    simpa only [State.fits, State.hasPlace, State.queue_setPort] using hfits
  have hback : (s.setPort p { s.port p with head := some f }).emptyHead p = s := by
    rw [State.emptyHead, hport, State.setPort_setPort]
    dsimp only
    rw [← hhead]
    exact State.setPort_port s p
  have hreports : (s.setPort p { s.port p with head := some f }).sigReports p f = s.sigReports p f := by
    cases p <;> rfl
  unfold State.judgeHead
  rw [hport]
  dsimp only
  rw [fate_setHead, if_pos hfits', State.takeHead, if_pos hk, hback, hreports]

/-- An event that judges a head ends as the taking of its frame comes to. -/
theorem finish_judge {s u : State} {p : Port} {a : Act} (ha : s.judgeHead p = a) (hu : comesTo a u) (b : Before) :
    finish b (s, [.judge p]) = .next (u.endEvent b.owed) := by
  obtain ⟨n, hn, hq, hheads⟩ := hu
  exact finish_work (quiesce_step (w := .judge p) ha hq) hheads b (by omega)

/-- R138 to R142, R157: a signal frame whose place is free is taken where it arrives, and where it was held. -/
theorem exec_signal {p : Port} {bytes : List Byte} {f : Frame} {s u : State} (hl : (s.port p).linkUp = true)
    (h : s.HeadsEmpty) (hrec : receivedFrame p bytes = some f) (hk : f.kind = .sig)
    (hfits : s.fits (s.fate p f) = true)
    (hu : comesTo (s.writeLevel p f.source f.signal f.level, s.sigReports p f ++ [.carry (s.fate p f) f]) u) :
    exec (.frameReceived p bytes) s = .next (s.ends u)
      ∧ exec (.frameTaken p) (s.setPort p { s.port p with head := some f }) = .next (s.ends u) := by
  have hhead : (s.port p).head = none := by
    cases p
    · exact h.1
    · exact h.2
  have hreceive : s.receive p bytes = (s.setPort p { s.port p with head := some f }, [.judge p]) := by
    simp [State.receive, hl, hrec, hhead]
  have hjudged := finish_judge (judgeHead_signal hhead hk hfits) hu
  refine ⟨?_, ?_⟩
  · change s.event (s.receive p bytes) = _
    rw [hreceive]
    exact hjudged s.before
  · refine (hjudged _).trans ?_
    cases p <;> rfl

theorem writeLevel_unmatched {s : State} {p : Port} {a : BitVec 4} {n : Byte} (h : s.findSignal p a n = none) (l : Level) :
    s.writeLevel p a n l = s := by
  simp [State.writeLevel, h]

theorem writeLevel_of_find {s : State} {p : Port} {a : BitVec 4} {n : Byte} {i : Fin 64} (h : s.findSignal p a n = some i)
    (l : Level) :
    s.writeLevel p a n l =
      if (s.signals.get i).track then { s with signals := s.signals.set i { s.signals.get i with level := l.tracked } }
      else s := by
  simp [State.writeLevel, h]

theorem sigReports_unmatched {s : State} {p : Port} {f : Frame} (h : s.lookup p f.source f.signal = none) :
    s.sigReports p f = [] := by
  simp [State.sigReports, h]

theorem sigReports_of_lookup {s : State} {p : Port} {f : Frame} {e : SignalEntry}
    (h : s.lookup p f.source f.signal = some e) :
    s.sigReports p f =
      (if e.track then [.levelReport p f.source f.signal f.level] else []) ++ flagReports e f.level := by
  simp [State.sigReports, h]

/-- R141: an entry with no flag reports no effect. -/
theorem flagReports_nil {e : SignalEntry} (hr : e.request = none) (ht : e.trip = false) (hv : e.veto = false)
    (hl : e.release = false) (hw : e.wake = none) (l : Level) : flagReports e l = [] := by
  simp [flagReports, hr, ht, hv, hl, hw]

/-! ## What each report does -/

theorem abort_wakes (s : State) (c : AbortCause) : (s.abort c).1.wakes = s.wakes := State.enterPlatform_wakes _ _

/-- R107: a WAKE effect at level ASSERTED is an arrival of a source bound to SIGNAL. -/
theorem wakeEffect_bound {s : State} {n : SourceId} (h : (s.wakes.get n).binding = .signal) :
    s.wakeEffect n .asserted = s.arrival n := if_pos ⟨rfl, h⟩

theorem wakeEffect_unbound {s : State} {n : SourceId} (h : (s.wakes.get n).binding ≠ .signal) (l : Level) :
    s.wakeEffect n l = (s, []) := if_neg fun hl => h hl.2

/-- R107, R141: the wake that follows the veto's abort. -/
theorem vetoWakeEffect_aborts {s : State} (h : s.platform = .checking ∨ s.platform = .parked) (n : SourceId) :
    s.vetoWakeEffect n .asserted
      = (((s.abort .veto).1.wakeEffect n .asserted).1, ((s.abort .veto).1.wakeEffect n .asserted).2 ++ (s.abort .veto).2) := by
  obtain ⟨-, -, e⟩ | ⟨hn, -⟩ := vetoWakeEffect_cases s n .asserted
  · exact e
  · exact absurd ⟨rfl, h⟩ hn

theorem vetoWakeEffect_wakes {s : State} {n : SourceId} {l : Level}
    (h : ¬ (l = .asserted ∧ (s.platform = .checking ∨ s.platform = .parked))) :
    s.vetoWakeEffect n l = s.wakeEffect n l := by
  obtain ⟨hl, hp, -⟩ | ⟨-, e⟩ := vetoWakeEffect_cases s n l
  · exact absurd ⟨hl, hp⟩ h
  · exact e

/-- R107, R110: after the veto's abort an enabled source bound to SIGNAL arrives in RETURNING. -/
theorem wakeEffect_after_veto {s : State} {n : SourceId} (hb : (s.wakes.get n).binding = .signal)
    (hen : (s.wakes.get n).enabled = true) :
    (s.abort .veto).1.wakeEffect n .asserted = ((s.abort .veto).1.capture n .none, []) := by
  have hjudge : (s.abort .veto).1.judgeArrival n = .none :=
    judgeArrival_busy (.inr (.inr (.inl (abort_platform s .veto)))) n
  rw [← abort_wakes s .veto] at hb hen
  rw [wakeEffect_bound hb, arrival_none hen hjudge]

theorem wakeEffect_silent {s : State} {n : SourceId}
    (h : (s.wakes.get n).binding ≠ .signal ∨ (s.wakes.get n).enabled = false) : s.wakeEffect n .asserted = (s, []) := by
  by_cases hb : (s.wakes.get n).binding = .signal
  · rw [wakeEffect_bound hb]
    exact if_neg (by simp [h.resolve_left (not_not_intro hb)])
  · exact wakeEffect_unbound hb _

end Sys2Proof.Machine

open Sys2Proof Sys2Proof.Machine in
/-- Settles O12: the frame is taken with its level written, and its reports come before its fate is carried out; each
report is one effect of the classifier. -/
theorem signalIsTrackedAndReported : Obligations.SignalIsTrackedAndReported := by
  refine ⟨fun p bytes f s hl h hrec hk hfits => ?_, fun p a n k l s => ?_⟩
  · have taken {u : State} := exec_signal (u := u) hl h hrec hk hfits
    refine ⟨fun hnone => taken ?_, fun i hi => ?_⟩
    · rw [writeLevel_unmatched (lookup_eq_none.mp hnone), sigReports_unmatched hnone]
      exact comesTo_carry h _ f
    · intro e written reports
      have hwritten : s.writeLevel p f.source f.signal f.level = written := writeLevel_of_find hi f.level
      have hreports : s.sigReports p f = reports := by
        rw [sigReports_of_lookup (lookup_of_find hi)]
        simp only [reports, flagReports, List.append_assoc] <;> rfl
      rw [hwritten, hreports] at taken
      refine ⟨fun hr ht hv hrel hw hwait => taken ?_, fun u hu => taken hu⟩
      have hheads : written.HeadsEmpty := by
        unfold written
        split <;> exact h
      have hidle : written.ctx.wait = .idle := by
        unfold written
        split <;> exact hwait
      rw [← hreports, sigReports_of_lookup (lookup_of_find hi), flagReports_nil hr ht hv hrel hw, List.append_nil]
      split
      · exact comesTo_report_carry hheads hidle _ _ _ _ _ f
      · exact comesTo_carry hheads _ f
  · refine ⟨fun hw => if_pos hw, fun hw => if_neg hw, rfl, rfl, rfl, fun hp => if_pos ⟨rfl, hp⟩, fun hc hp => if_neg ?_, rfl,
      fun hw => if_pos ⟨rfl, hw⟩, fun hw => if_neg fun hc => hw hc.2, rfl, wakeEffect_bound,
      fun hb => wakeEffect_unbound hb _, rfl, fun hp => ⟨fun hb hen => ?_, fun hs => ?_⟩, fun hc hp => ?_, ?_⟩
    · simp [hc, hp]
    · have hwake := wakeEffect_after_veto hb hen
      refine ⟨?_, ?_, ?_⟩
      · rw [micro, vetoWakeEffect_aborts hp, hwake]
        rfl
      · rw [capture_get_self]
        exact congrArg some (abort_platform s .veto)
      · rw [capture_get_self]
        rfl
    · have hs' : ((s.abort .veto).1.wakes.get k).binding ≠ .signal ∨ ((s.abort .veto).1.wakes.get k).enabled = false := by
        rwa [abort_wakes]
      rw [micro, vetoWakeEffect_aborts hp, wakeEffect_silent hs']
      rfl
    · exact vetoWakeEffect_wakes (by simp [hc, hp])
    · exact (vetoWakeEffect_wakes (by simp)).trans (if_neg (by simp))
end

section
/-! # Writes of the signal table

A record spelled by its fields replaces its entry, or is refused by the tests of R132 or as a duplicate (R133). -/

-- One declaration at a time: the threads that would wait for the kernel go past the limit on memory.
set_option Elab.async false

namespace Sys2Proof.Machine

open Sys2Proof

/-! ## The tests and the codes of an entry -/

/-- R132: the tests of an entry. -/
theorem signalEntry_wf_iff (e : SignalEntry) :
    e.wf = true ↔
      e.agent.toNat ≤ 14
        ∧ (e.request ≠ none ∨ e.release = true ∨ e.trip = true → e.port = .up)
        ∧ (e.wake ≠ none → e.port = .dn)
        ∧ (e.request ≠ none ∨ e.veto = true ∨ e.trip = true ∨ e.release = true → e.track = true) := by
  simp only [SignalEntry.wf, Bool.and_eq_true, Bool.or_eq_true, decide_eq_true_eq, beq_iff_eq, Option.isNone_iff_eq_none,
    Bool.not_eq_true', ne_eq, ← Bool.not_eq_true]
  tauto

@[simp] theorem portOf_code (p : Port) : portOf (portCode p) = some p := by
  cases p <;> rfl

@[simp] theorem sigActionOf_code (a : SigAction) : sigActionOf a.code = some a := by
  cases a <;> rfl

@[simp] theorem requestFlagOf_code (r : Option LowState) : requestFlagOf (requestFlagCode r) = some r := by
  obtain - | t := r
  · rfl
  · cases t <;> rfl

/-- Table 11-4: every WAKE flag but W0 has a code. -/
theorem wakeFlagOf_code {w : Option SourceId} (h : w ≠ some 0) : wakeFlagOf (wakeFlagCode w) = some w := by
  cases w with
  | none => rfl
  | some n =>
    have hn : n.val ≠ 0 := fun h0 => h (congrArg some (Fin.ext h0))
    simp [wakeFlagOf, wakeFlagCode, hn]

/-- R132: the codes of an entry spell it where it passes the tests. -/
theorem signalEntryOf_fields {e : SignalEntry} (h : e.wake ≠ some 0) :
    signalEntryOf e.level e.fields = if e.wf then some e else none := by
  have hagent : e.agent.toNat < 16 := e.agent.isLt
  simp [signalEntryOf, SignalEntry.fields, wakeFlagOf_code h, hagent]

/-! ## The bytes of an entry -/

theorem toNat_boolByte (b : Bool) : (if b then 1 else 0 : Byte).toNat = boolCode b := by
  cases b <;> rfl

theorem toNat_agentByte (a : BitVec 4) : (a.setWidth 8).toNat = a.toNat := by
  rw [BitVec.toNat_setWidth]
  omega

/-! ## What a write does -/

/-- R133: the entry would stand in use with another in-use entry's key. -/
theorem duplicateKey_iff {s : State} {i : Fin 64} {e : SignalEntry} :
    s.duplicateKey i e = true ↔
      e.inUse = true ∧ ∃ j, j ≠ i ∧ (s.signals.get j).inUse = true ∧ (s.signals.get j).port = e.port
        ∧ (s.signals.get j).agent = e.agent ∧ (s.signals.get j).signal = e.signal := by
  simp [State.duplicateKey, hasKey_iff]

section Write

variable {s : State} {i : Fin 64} {sel : List (Option Nat)} {e : SignalEntry}

/-- The fields that a write leaves spell the entry, whose level no write reaches. -/
def State.Spells (s : State) (i : Fin 64) (sel : List (Option Nat)) (e : SignalEntry) : Prop :=
  e.wake ≠ some 0
    ∧ mergeFields (s.signals.get i).fields sel = SignalEntry.fields { e with level := (s.signals.get i).level }

theorem State.Spells.entryOf (h : s.Spells i sel e) :
    signalEntryOf (s.signals.get i).level (mergeFields (s.signals.get i).fields sel)
      = if e.wf then some { e with level := (s.signals.get i).level } else none := by
  rw [h.2]
  exact signalEntryOf_fields (e := { e with level := (s.signals.get i).level }) h.1

/-- R132: an entry that breaks a test is refused. -/
theorem State.Spells.illFormed (h : s.Spells i sel e) (hwf : e.wf = false) : s.writeSignal i sel = (s, .badValue) := by
  simp [State.writeSignal, h.entryOf, hwf, State.refuse]

/-- R133: a key that is another entry's is refused. -/
theorem State.Spells.duplicate (h : s.Spells i sel e) (hwf : e.wf = true) (hd : s.duplicateKey i e = true) :
    s.writeSignal i sel = (s, .duplicate) := by
  have hd' : s.duplicateKey i { e with level := (s.signals.get i).level } = true := hd
  simp [State.writeSignal, h.entryOf, hwf, hd', State.refuse]

/-- R134: any other entry is replaced, and its level stands or is UNKNOWN. -/
theorem State.Spells.accepted (h : s.Spells i sel e) (hwf : e.wf = true) (hd : s.duplicateKey i e = false) :
    s.writeSignal i sel =
      ({ s with signals := s.signals.set i { e with
          level := if (s.signals.get i).resetsLevel e then .unknown else (s.signals.get i).level } }, .ok) := by
  have hd' : s.duplicateKey i { e with level := (s.signals.get i).level } = false := hd
  simp only [State.writeSignal, h.entryOf, hwf, if_true, hd']
  rfl

end Write

theorem toNat_ofNat_entry (i : Fin 64) : (BitVec.ofNat 8 i.val).toNat = i.val := toNat_ofNat_of_lt (by omega)

theorem indexInRange_entry (i : Fin 64) : indexInRange 9 i.val = true := by
  simp [indexInRange, tableRange]

theorem executeWrite_signal {mask : BitVec 16} {values : List Byte} {sel : List (Option Nat)} (hmask : mask ≠ 0)
    (hsel : selection 9 mask values = some sel) (s : State) (i : Fin 64) :
    s.executeWrite 9 i.val mask values = s.writeSignal i sel := by
  simp only [State.executeWrite, indexInRange_entry, hsel, if_neg hmask, State.writeTable, recordIndex_val]
  rfl

/-! ## Selections of table 9 (R184) -/

theorem bytesValue_byte (b : Byte) : bytesValue [b] = b.toNat := by
  simp [bytesValue]

/-- R184: a mask of the twelve writable fields takes a byte for each. -/
theorem selection_entry (a b c d e f g h i j k l : Byte) :
    selection 9 0xFFF [a, b, c, d, e, f, g, h, i, j, k, l]
      = some ([a, b, c, d, e, f, g, h, i, j, k, l].map (fun x => some x.toNat) ++ [none]) := by
  simp [selection, tableLayout, selectFields, rw, ro, bytesValue_byte]

theorem selection_inUse (b : Byte) : selection 9 1 [b] = some (some b.toNat :: List.replicate 12 none) := by
  simp [selection, tableLayout, selectFields, rw, ro, bytesValue_byte]

theorem selection_track (b : Byte) :
    selection 9 0x40 [b] = some (List.replicate 6 none ++ some b.toNat :: List.replicate 6 none) := by
  simp [selection, tableLayout, selectFields, rw, ro, bytesValue_byte]

theorem selection_source (a n : Byte) :
    selection 9 0xC [a, n] = some ([none, none, some a.toNat, some n.toNat] ++ List.replicate 9 none) := by
  simp [selection, tableLayout, selectFields, rw, ro, bytesValue_byte]

/-- R184: a mask that selects a read-only field selects nothing. -/
theorem selectFields_readOnly {mask : BitVec 16} {k j : Nat} {fs : List FieldSpec} {x : FieldSpec} (hj : fs[j]? = some x)
    (hx : x.writable = false) (hmask : mask.getLsbD (k + j) = true) (bytes : List Byte) :
    selectFields mask k fs bytes = none := by
  induction fs generalizing k j bytes with
  | nil => simp at hj
  | cons y fs ih =>
    unfold selectFields
    cases j with
    | zero =>
      obtain rfl : y = x := by simpa using hj
      have hk : mask.getLsbD k = true := hmask
      rw [if_pos hk, if_neg (by simp [hx])]
    | succ j =>
      have htail (bs : List Byte) : selectFields mask (k + 1) fs bs = none :=
        ih (by simpa using hj) (by rwa [Nat.add_right_comm]) bs
      simp [htail]

theorem executeWrite_level {mask : BitVec 16} (h : mask.getLsbD 12 = true) (values : List Byte) (s : State) (i : Fin 64) :
    s.executeWrite 9 i.val mask values = (s, .badValue) := by
  have hsel : selection 9 mask values = none :=
    selectFields_readOnly (k := 0) (j := 12) (x := ro 1) rfl rfl h values
  simp only [State.executeWrite, indexInRange_entry, hsel]
  rfl

end Sys2Proof.Machine

open Sys2Proof Sys2Proof.Machine in
/-- Settles O50: the bytes of a write spell the entry that would stand, which is refused, a duplicate, or taken; the level
is read-only. -/
theorem signalTableWrites : Obligations.SignalTableWrites := by
  refine ⟨signalEntry_wf_iff, fun tag i s h => ?_⟩
  intro old at_ judged
  have judge {e : SignalEntry} {mask : BitVec 16} {bytes : List Byte} {sel : List (Option Nat)} (hmask : mask ≠ 0)
      (hfit : valuesFit bytes = true) (hsel : selection 9 mask bytes = some sel) (hs : s.Spells i sel e) :
      judged e mask bytes := by
    have write {t : State} {st : CfgStatus} (hw : s.writeSignal i sel = (t, st)) :
        exec (.signalTableWrite tag at_ mask bytes) s = .next (s.ends (t.answered tag 9 at_ st [])) := by
      refine request_write h hfit ?_
      rw [toNat_ofNat_entry, ← hw]
      exact executeWrite_signal hmask hsel s i
    refine ⟨fun hwf => write (hs.illFormed hwf), fun hwf hu ht => write (hs.duplicate hwf (duplicateKey_iff.mpr ⟨hu, ht⟩)),
      fun hwf hfree => ⟨_, write (hs.accepted hwf ?free), fun hkept => if_neg ?kept, fun hchanged => if_pos ?changed⟩⟩
    case free =>
      refine Bool.eq_false_iff.mpr fun hd => ?_
      obtain ⟨hu, ht⟩ := duplicateKey_iff.mp hd
      obtain hfree | hfree := hfree
      · exact absurd hu (by simp [hfree])
      · exact hfree ht
    case kept => exact Bool.eq_false_iff.mp (resetsLevel_eq_false.mpr hkept)
    case changed => exact Bool.of_not_eq_false (mt resetsLevel_eq_false.mp hchanged)
  refine ⟨fun e he => ?whole, fun hold => ⟨fun b => ⟨?inUse, ?track⟩, fun a n => ?source⟩, fun mask values hv hm => ?level⟩
  case whole =>
    refine judge (by decide) rfl (selection_entry ..) ⟨he, ?_⟩
    simp only [mergeFields, SignalEntry.fields, List.map, List.cons_append, List.nil_append, Option.getD_some,
      Option.getD_none, toNat_boolByte, toNat_agentByte, List.cons.injEq, true_and, and_true]
    refine ⟨?port, ?action, ?wake, ?request⟩
    case port => cases e.port <;> rfl
    case action => cases e.action <;> rfl
    case wake =>
      cases e.wake with
      | none => rfl
      | some n => exact toNat_ofNat_of_lt (by omega)
    case request =>
      cases e.request with
      | none => rfl
      | some t => cases t <;> rfl
  case inUse =>
    refine judge (by decide) rfl (selection_inUse _) ⟨hold, ?_⟩
    cases b <;> rfl
  case track =>
    refine judge (by decide) rfl (selection_track _) ⟨hold, ?_⟩
    cases b <;> rfl
  case source =>
    refine judge (by decide) rfl (selection_source _ _) ⟨hold, ?_⟩
    rw [toNat_agentByte]
    rfl
  case level =>
    refine request_write h hv ?_
    rw [toNat_ofNat_entry]
    exact executeWrite_level hm values s i
end

section
/-! # Frames: the wire, and the frames that the part builds

A received sequence is read as the one well-formed frame that spells it (R147 to R149), and every frame that the part
builds for itself is well formed (R163). -/

-- One declaration at a time: the threads that would wait for the kernel go past the limit on memory.
set_option Elab.async false

namespace Sys2Proof.Machine

open Sys2Proof

/-! ## The wire (Table 9-1) -/

theorem frameKindOf_code (k : FrameKind) : frameKindOf k.code = some k := by
  cases k <;> rfl

theorem frameKindOf_eq_some {c : BitVec 4} {k : FrameKind} (h : frameKindOf c = some k) : c = k.code := by
  unfold frameKindOf at h
  split at h
  case h_8 => contradiction
  all_goals
    rename_i hc
    exact Option.some.inj h ▸ BitVec.eq_of_toNat_eq hc

/-- R147: a body that fits its kind has at most 32 bytes. -/
theorem bodyFits_length {k : FrameKind} {body : List Byte} (h : bodyFits k body = true) : body.length ≤ 32 := by
  cases k <;> simp only [bodyFits, Bool.and_eq_true, beq_iff_eq, decide_eq_true_eq] at h <;> omega

theorem highNibble_append (a b : BitVec 4) : BitVec.extractLsb' (n := 8) 4 4 (a ++ b) = a :=
  BitVec.extractLsb'_append_eq_left

theorem lowNibble_append (a b : BitVec 4) : BitVec.extractLsb' (n := 8) 0 4 (a ++ b) = b :=
  BitVec.extractLsb'_append_eq_right

/-- The two halves of a header byte spell it. -/
theorem nibbles_append (b : Byte) : (b.extractLsb' 4 4 ++ b.extractLsb' 0 4 : BitVec 8) = b := by
  decide +revert

theorem parseFrame_wire {f : Frame} (h : f.wf = true) : parseFrame f.wire = some f := by
  have hlen : (BitVec.ofNat 8 f.body.length).toNat = f.body.length :=
    Nat.mod_eq_of_lt (Nat.lt_of_le_of_lt (bodyFits_length h) (by decide))
  have hfits : bodyFits f.kind f.body = true := h
  simp [Frame.wire, Frame.content, parseFrame, highNibble_append, lowNibble_append, frameKindOf_code,
    -BitVec.toNat_ofNat, hlen, hfits]

theorem wire_of_parseFrame {bytes : List Byte} {f : Frame} (h : parseFrame bytes = some f) :
    f.wf = true ∧ f.wire = bytes := by
  unfold parseFrame at h
  split at h
  case h_2 => contradiction
  rename_i b0 b1 b2 rest
  split at h
  · contradiction
  rename_i k hk
  dsimp only at h
  split at h
  case isFalse => contradiction
  rename_i hread
  obtain ⟨hlen, hcheck, hfits⟩ := hread
  cases h
  refine ⟨hfits, ?_⟩
  have hkind := frameKindOf_eq_some hk
  have hbody : (rest.take b2.toNat).length = b2.toNat := by
    rw [List.length_take]
    omega
  have hrest : rest.take b2.toNat ++ [crc8 (b0 :: b1 :: b2 :: rest.take b2.toNat)] = rest := by
    have hlast : rest.drop b2.toNat = [rest.getD b2.toNat 0] := by
      rw [List.drop_eq_getElem_cons (by omega), List.drop_eq_nil_of_le (by omega)]
      simp [List.getD_eq_getElem?_getD, hlen]
    rw [← hcheck, ← hlast, List.take_append_drop]
  simp only [Frame.wire, Frame.content, ← hkind, nibbles_append, hbody, BitVec.ofNat_toNat, BitVec.setWidth_eq,
    List.cons_append, hrest]

/-- R149: a received frame is well formed and comes from an agent that its port allows. -/
theorem receivedFrame_sound {p : Port} {bytes : List Byte} {f : Frame} (h : receivedFrame p bytes = some f) :
    f.wf = true ∧ sourceAllowed p f.source = true := by
  unfold receivedFrame at h
  split at h
  · contradiction
  · rename_i g hg
    split at h
    · obtain rfl := Option.some.inj h
      exact ⟨(wire_of_parseFrame hg).1, ‹_›⟩
    · contradiction

/-! ## The frames that the part builds (R163) -/

theorem fieldBytes_length (n v : Nat) : (fieldBytes n v).length = n := by
  induction n with
  | zero => rfl
  | succ n ih => rw [fieldBytes, List.length_cons, ih]

theorem ownSignal_wf (sig : Byte) (l : Level) : (ownSignal sig l).wf = true := by
  cases l <;> rfl

theorem noAgentReply_wf (f : Frame) (a : BitVec 4) : (noAgentReply f a).wf = true := rfl

theorem deniedReply_wf (f : Frame) : (deniedReply f).wf = true := rfl

theorem noteFrame_wf (s : State) : s.noteFrame.wf = true := by
  simp [Frame.wf, bodyFits, State.noteFrame, fieldBytes_length]

theorem cfgResponse_wf (f : Frame) (st : CfgStatus) {record : List Byte} (h : record.length ≤ 29) :
    (cfgResponse f st record).wf = true := by
  have hlen : record.length + 1 + 1 < 32 := by omega
  simpa [Frame.wf, bodyFits, cfgResponse] using hlen

theorem withSignal_wf {f : Frame} (h : f.wf = true) (hk : f.kind = .sig) (n : Byte) : (f.withSignal n).wf = true := by
  simp only [Frame.wf, bodyFits, hk, Bool.and_eq_true, beq_iff_eq] at h
  obtain ⟨hlen, hlevel⟩ := h
  obtain ⟨a, b, hbody⟩ := List.length_eq_two.mp hlen
  simpa [Frame.wf, bodyFits, Frame.withSignal, hk, hbody] using hlevel

/-- R142: a forwarded signal is well formed. -/
theorem forwarded_wf (s : State) (p : Port) {f : Frame} (h : f.wf = true) (hk : f.kind = .sig) :
    (s.forwarded p f).wf = true := by
  unfold State.forwarded
  split
  · exact h
  · split
    · exact withSignal_wf h hk _
    · exact h

/-- The bytes of a record are at most those of the layout's fields. -/
theorem recordBytes_length_le (layout : List FieldSpec) (fields : List Nat) :
    (recordBytes layout fields).length ≤ (layout.map FieldSpec.size).sum := by
  induction layout generalizing fields with
  | nil => exact Nat.zero_le _
  | cons x layout ih =>
    cases fields with
    | nil => exact Nat.zero_le _
    | cons v fields =>
      have hrest := ih fields
      simp only [recordBytes, List.zip_cons_cons, List.flatMap_cons, List.length_append, fieldBytes_length,
        List.map_cons, List.sum_cons] at hrest ⊢
      omega

theorem tableLayout_size_le {table : Nat} {layout : List FieldSpec} (h : tableLayout table = some layout) :
    (layout.map FieldSpec.size).sum ≤ 29 := by
  unfold tableLayout at h
  split at h
  case h_16 => contradiction
  all_goals exact Option.some.inj h ▸ by decide

theorem statusBytes_length (s : State) : s.statusBytes.length = 29 := by
  simp [State.statusBytes, State.statusValues, fieldBytes_length]

/-- R147, R185: no record is longer than a response has room for. -/
theorem readBytes_length_le {s : State} {table index : Nat} {record : List Byte}
    (h : s.readBytes table index = some record) : record.length ≤ 29 := by
  unfold State.readBytes at h
  split at h
  · split at h
    · obtain rfl := Option.some.inj h
      exact (statusBytes_length s).le
    · contradiction
  · split at h
    · obtain rfl := Option.some.inj h
      exact (recordBytes_length_le ..).trans (tableLayout_size_le ‹_›)
    · contradiction

theorem executeRead_length_le (s : State) (table index : Nat) : (s.executeRead table index).2.2.length ≤ 29 := by
  unfold State.executeRead
  split_ifs
  · exact Nat.zero_le _
  · exact Nat.zero_le _
  · cases hr : s.readBytes table index with
    | none => exact Nat.zero_le _
    | some record => exact readBytes_length_le hr

/-- R184, R185: the response of an executed request is well formed. -/
theorem execute_response_wf (s : State) (f : Frame) : (s.execute f).2.wf = true := by
  unfold State.execute
  dsimp only
  split
  · exact cfgResponse_wf f _ (Nat.zero_le _)
  all_goals exact cfgResponse_wf f _ (executeRead_length_le ..)

end Sys2Proof.Machine

open Sys2Proof Sys2Proof.Machine in
/-- Settles O55: the parts of a well-formed frame are read from the bytes that spell them, and the bytes of a sequence
that is read are spelled by the parts read from it. -/
theorem framesReadBack : Obligations.FramesReadBack :=
  fun _ _ => ⟨parseFrame_wire, wire_of_parseFrame⟩
end

section
/-! # Sound links: what the invariant reads, and the changes that keep it

The invariant of the links reads the queues and, of each port, its state, its head and its transmitter. A frame may
join a queue where it is admitted: it is well formed, the queue's port is UP, and the input queue takes the hub's
requests alone. -/

-- One declaration at a time: the threads that would wait for the kernel go past the limit on memory.
set_option Elab.async false

namespace Sys2Proof.Machine

open Sys2Proof

/-! ## The invariant -/

/-- The registers of a port that the invariant of the links reads. -/
def PortState.link (x : PortState) : Bool × Option Frame × Option (QueueId × Frame) := (x.linkUp, x.head, x.sending)

/-- The registers of a state that the invariant of the links reads. -/
def State.links (s : State) := (s.queues, s.up.link, s.dn.link)

/-- R146, R147, R149, R151, R153, R154, R161, R163: queues within their capacities, DOWN ports empty, frames well
formed. -/
structure State.LinkSound (s : State) : Prop where
  bounded : s.QueuesBounded
  empty : s.DownPortsEmpty
  frames : s.FramesSound

/-- R151: a request of the hub to the part. -/
def Frame.hubRequest (f : Frame) : Prop := (f.kind = .cfgWr ∨ f.kind = .cfgRd) ∧ f.dest = 15 ∧ f.source = 0

/-- R154, R161: this frame may join this queue. -/
structure State.Admits (s : State) (q : QueueId) (f : Frame) : Prop where
  wf : f.wf = true
  up : ∀ p, q ∈ txQueues p → (s.port p).linkUp = true
  hub : q = .cfgIn → f.hubRequest

/-- The queue in which a fate's frame is placed, with the frame placed there. -/
def Fate.placed (f : Frame) : Fate → Option (QueueId × Frame)
  | .consume | .miss _ | .discardUp => none
  | .noAgent a => some (.upRsp, noAgentReply f a)
  | .place q g => some (q, g)
  | .deny => some (.dnOwn, deniedReply f)

/-- A piece of work that places a frame for a head places one that its queue admits. -/
def State.Allows (s : State) : Work → Prop
  | .carry fate f => ∀ x ∈ fate.placed f, s.Admits x.1 x.2
  | .start _ | .rollback | .onReport _ | .offReport _ | .faultReport _ _ | .overrangeReport _ | .holdOver _
  | .tripCause _ | .arrival _ | .levelReport _ _ _ _ | .requestEffect | .tripEffect _ | .vetoEffect _
  | .releaseEffect _ | .wakeEffect _ _ | .vetoWakeEffect _ _ | .judge _ | .portDown _ | .serve | .settle _ => True

/-- This piece of work carries no frame. -/
def Work.plain : Work → Bool
  | .carry _ _ => false
  | .start _ | .rollback | .onReport _ | .offReport _ | .faultReport _ _ | .overrangeReport _ | .holdOver _
  | .tripCause _ | .arrival _ | .levelReport _ _ _ _ | .requestEffect | .tripEffect _ | .vetoEffect _
  | .releaseEffect _ | .wakeEffect _ _ | .vetoWakeEffect _ _ | .judge _ | .portDown _ | .serve | .settle _ => true

theorem State.Allows.of_plain {s : State} {w : Work} (h : w.plain = true) : s.Allows w := by
  cases w <;> trivial

/-- The work of this piece and of the state that it leaves: no port comes UP or goes DOWN, sound links stay sound, and
the work set off places what its queues take. -/
structure State.Leads (s : State) (a : Act) : Prop where
  up : ∀ p, (a.1.port p).linkUp = (s.port p).linkUp
  sound : s.LinkSound → a.1.LinkSound
  work : s.LinkSound → ∀ w ∈ a.2, s.Allows w

section
variable {s t : State}

theorem State.Admits.congr {q : QueueId} {f : Frame} (h : s.Admits q f)
    (e : ∀ p, (t.port p).linkUp = (s.port p).linkUp) : t.Admits q f :=
  ⟨h.wf, fun p hq => (e p).trans (h.up p hq), h.hub⟩

theorem State.Allows.congr {w : Work} (h : s.Allows w) (e : ∀ p, (t.port p).linkUp = (s.port p).linkUp) :
    t.Allows w := by
  cases w with
  | carry fate f => exact fun x hx => (h x hx).congr e
  | _ => trivial

theorem State.ports_of_links (e : t.links = s.links) (p : Port) :
    (t.port p).linkUp = (s.port p).linkUp ∧ (t.port p).head = (s.port p).head
      ∧ (t.port p).sending = (s.port p).sending := by
  simp only [State.links, PortState.link, Prod.mk.injEq] at e
  obtain ⟨-, hup, hdn⟩ := e
  cases p
  · exact hup
  · exact hdn

theorem links_of_eq (hq : t.queues = s.queues) (hu : t.up = s.up) (hd : t.dn = s.dn) : t.links = s.links := by
  simp only [State.links, hq, hu, hd]

/-- The invariant of the links reads their view alone. -/
theorem State.LinkSound.congr (h : s.LinkSound) (e : t.links = s.links := by exact links_of_eq rfl rfl rfl) :
    t.LinkSound := by
  have hports := State.ports_of_links e
  have hqueues : t.queues = s.queues := congrArg Prod.fst e
  obtain ⟨hbounded, hempty, hframes⟩ := h
  simp only [State.QueuesBounded, State.DownPortsEmpty, State.FramesSound, State.queue] at hbounded hempty hframes
  constructor <;>
    simpa only [State.QueuesBounded, State.DownPortsEmpty, State.FramesSound, State.queue, hports, hqueues]

namespace State.LinkSound

/-- A frame in a queue is one that the queue admits. -/
theorem admits (h : s.LinkSound) {q : QueueId} {f : Frame} (hf : f ∈ s.queue q) : s.Admits q f := by
  obtain ⟨hwf, -, -, hhub⟩ := h.frames
  refine ⟨hwf q f hf, fun p hq => ?_, fun hq => hhub f (by subst hq; exact hf)⟩
  by_contra hdown
  obtain ⟨-, -, hnone⟩ := h.empty p (Bool.eq_false_iff.mpr hdown)
  rw [hnone q hq] at hf
  exact absurd hf List.not_mem_nil

/-- A queue within its capacity, of frames that it admits. -/
theorem setQueue (h : s.LinkSound) {q : QueueId} {l : List Frame} (hlen : l.length ≤ capacity q)
    (hl : ∀ f ∈ l, s.Admits q f) : (s.setQueue q l).LinkSound := by
  have hqueue (r : QueueId) : (s.setQueue q l).queue r = s.queue r ∨ r = q ∧ (s.setQueue q l).queue r = l := by
    obtain rfl | hne := eq_or_ne r q
    · exact .inr ⟨rfl, State.queue_setQueue_self ..⟩
    · exact .inl (State.queue_setQueue_of_ne _ _ hne)
  obtain ⟨hbounded, hempty, hwf, hhead, hsending, hhub⟩ := h
  refine ⟨fun r => ?_, fun p hp => ?_, ⟨fun r f hf => ?_, hhead, hsending, fun f hf => ?_⟩⟩
  · obtain e | ⟨rfl, e⟩ := hqueue r <;> rw [e]
    · exact hbounded r
    · exact hlen
  · obtain ⟨hnone, hidle, hqueues⟩ := hempty p hp
    refine ⟨hnone, hidle, fun r hr => ?_⟩
    obtain e | ⟨rfl, e⟩ := hqueue r <;> rw [e]
    · exact hqueues r hr
    · refine List.eq_nil_iff_forall_not_mem.mpr fun f hf => ?_
      exact Bool.false_ne_true (hp.symm.trans ((hl f hf).up p hr))
  · obtain e | ⟨rfl, e⟩ := hqueue r <;> rw [e] at hf
    · exact hwf r f hf
    · exact (hl f hf).wf
  · change f ∈ (s.setQueue q l).queue .cfgIn at hf
    obtain e | ⟨hq, e⟩ := hqueue .cfgIn <;> rw [e] at hf
    · exact hhub f hf
    · exact (hl f hf).hub hq.symm

/-- A port that, DOWN, holds nothing, with a head and a transmission that the spec allows. -/
theorem setPort (h : s.LinkSound) {p : Port} {x : PortState}
    (hdown : x.linkUp = false → x.head = none ∧ x.sending = none ∧ ∀ q ∈ txQueues p, s.queue q = [])
    (hhead : ∀ f, x.head = some f → f.wf = true ∧ sourceAllowed p f.source = true)
    (hsending : ∀ y, x.sending = some y → y.2.wf = true) : (s.setPort p x).LinkSound := by
  obtain ⟨hbounded, hempty, hwf, hheads, hsendings, hhub⟩ := h
  have hport (r : Port) : (s.setPort p x).port r = s.port r ∨ r = p ∧ (s.setPort p x).port r = x := by
    obtain rfl | hne := eq_or_ne r p
    · exact .inr ⟨rfl, State.port_setPort_self ..⟩
    · exact .inl (State.port_setPort_of_ne _ _ hne)
  have hqueue (q : QueueId) : (s.setPort p x).queue q = s.queue q := State.queue_setPort ..
  refine ⟨fun q => ?_, fun r hr => ?_, ⟨fun q => ?_, fun r => ?_, fun r => ?_, fun f hf => ?_⟩⟩
  · rw [hqueue]
    exact hbounded q
  · simp only [hqueue]
    obtain e | ⟨rfl, e⟩ := hport r <;> rw [e] at hr ⊢
    · exact hempty r hr
    · exact hdown hr
  · rw [hqueue]
    exact hwf q
  · obtain e | ⟨rfl, e⟩ := hport r <;> rw [e]
    · exact hheads r
    · exact hhead
  · obtain e | ⟨rfl, e⟩ := hport r <;> rw [e]
    · exact hsendings r
    · exact hsending
  · change f ∈ (s.setPort p x).queue .cfgIn at hf
    rw [hqueue] at hf
    exact hhub f hf

/-- A head that holds a frame is that of an UP port. -/
theorem up_of_head (h : s.LinkSound) {p : Port} {f : Frame} (hf : (s.port p).head = some f) :
    (s.port p).linkUp = true := by
  by_contra hdown
  obtain ⟨hnone, -⟩ := h.empty p (Bool.eq_false_iff.mpr hdown)
  simp [hnone] at hf

end State.LinkSound

namespace State.Leads

/-! ## Work in general -/

/-- A change without work. -/
theorem of_sound (hup : ∀ p, (t.port p).linkUp = (s.port p).linkUp) (hs : s.LinkSound → t.LinkSound) :
    s.Leads (t, []) :=
  ⟨hup, hs, fun _ _ hw => absurd hw List.not_mem_nil⟩

theorem refl (s : State) : s.Leads (s, []) := of_sound (fun _ => rfl) id

/-- A change that the invariant does not see, with work that carries no frame. -/
theorem of_links {ws : List Work} (e : t.links = s.links := by exact links_of_eq rfl rfl rfl)
    (hw : ws.all Work.plain = true := by rfl) :
    s.Leads (t, ws) :=
  ⟨fun p => (ports_of_links e p).1, fun h => h.congr e,
    fun _ w hm => .of_plain (List.all_eq_true.mp hw w hm)⟩

theorem trans {a : Act} (h : s.Leads (t, [])) (k : t.Leads a) : s.Leads a :=
  ⟨fun p => (k.up p).trans (h.up p), fun hs => k.sound (h.sound hs),
    fun hs w hw => (k.work (h.sound hs) w hw).congr fun p => (h.up p).symm⟩

/-- The work of two pieces, in either order. -/
theorem join {a b : Act} {ws : List Work} (h : s.Leads a) (k : a.1.Leads b) (hw : ∀ w ∈ ws, w ∈ a.2 ∨ w ∈ b.2) :
    s.Leads (b.1, ws) :=
  ⟨fun p => (k.up p).trans (h.up p), fun hs => k.sound (h.sound hs), fun hs w hm =>
    (hw w hm).elim (h.work hs w) fun hb => (k.work (h.sound hs) w hb).congr fun p => (h.up p).symm⟩

theorem append {a b : Act} (h : s.Leads a) (k : a.1.Leads b) : s.Leads (b.1, a.2 ++ b.2) :=
  h.join k fun _ => List.mem_append.mp

theorem prepend {a b : Act} (h : s.Leads a) (k : a.1.Leads b) : s.Leads (b.1, b.2 ++ a.2) :=
  h.join k fun _ hw => (List.mem_append.mp hw).symm

theorem ite {c : Prop} [Decidable c] {a b : Act} (ha : s.Leads a) (hb : s.Leads b) :
    s.Leads (if c then a else b) := by
  split
  · exact ha
  · exact hb

/-- More work that carries no frame. -/
theorem with_work {ws : List Work} (h : s.Leads (t, [])) (hw : ws.all Work.plain = true := by rfl) : s.Leads (t, ws) :=
  ⟨h.up, h.sound, fun _ w hm => .of_plain (List.all_eq_true.mp hw w hm)⟩

/-! ## Queues and ports -/

theorem enqueue {q : QueueId} {f : Frame} (h : s.Admits q f) : s.Leads (s.enqueue q f, []) := by
  obtain ⟨hplace, e⟩ | ⟨-, e⟩ := enqueue_cases s q f <;> rw [e]
  · refine of_sound (fun _ => rfl) fun hs => hs.setQueue ?_ ?_
    · rw [List.length_append]
      exact (hasPlace_iff s q).mp hplace
    · exact List.forall_mem_append.mpr ⟨fun g hg => hs.admits hg, List.forall_mem_singleton.mpr h⟩
  · exact refl s

/-- A queue gives up its head. -/
theorem dequeue {q : QueueId} {f : Frame} {rest : List Frame} (e : s.queue q = f :: rest) :
    s.Leads (s.setQueue q rest, []) := by
  refine of_sound (fun _ => rfl) fun hs => hs.setQueue ?_ fun g hg => hs.admits ?_
  · have hlen := hs.bounded q
    rw [e, List.length_cons] at hlen
    omega
  · rw [e]
    exact List.mem_cons_of_mem f hg

theorem setPort_linkUp {p : Port} {x : PortState} (hup : x.linkUp = (s.port p).linkUp) (r : Port) :
    ((s.setPort p x).port r).linkUp = (s.port r).linkUp := by
  obtain rfl | hne := eq_or_ne r p
  · rw [State.port_setPort_self, hup]
  · rw [State.port_setPort_of_ne _ _ hne]

/-- A port's state under the same link. -/
theorem setPort {p : Port} {x : PortState} (hup : x.linkUp = (s.port p).linkUp)
    (hs : s.LinkSound → (s.setPort p x).LinkSound) : s.Leads (s.setPort p x, []) := by
  refine of_sound (setPort_linkUp hup) hs

/-- A port's head is emptied. -/
theorem emptyHead (s : State) (p : Port) : s.Leads (s.emptyHead p, []) := by
  refine setPort rfl fun hs => hs.setPort (fun hdown => ?_) nofun ?_
  · obtain ⟨-, hrest⟩ := hs.empty p hdown
    exact ⟨rfl, hrest⟩
  · obtain ⟨-, -, hsending, -⟩ := hs.frames
    exact hsending p

/-- A transmission of an UP port begins. -/
theorem setSending {p : Port} {y : QueueId × Frame} (hup : (s.port p).linkUp = true) (hy : y.2.wf = true) :
    s.Leads (s.setPort p { s.port p with sending := some y }, []) := by
  refine setPort rfl fun hs => ?_
  obtain ⟨-, hhead, -⟩ := hs.frames
  refine hs.setPort (fun hdown => absurd (hup.symm.trans hdown) (by decide)) (hhead p) fun z hz => ?_
  exact Option.some.inj hz ▸ hy

/-- R155, R156: a transmitter takes the head of a queue, or nothing. -/
theorem chooseFrame (s : State) (p : Port) : s.Leads (s.chooseFrame p, []) := by
  obtain e | ⟨q, f, rest, hchoose, -, hq, -, e⟩ := chooseFrame_cases s p <;> rw [e]
  · exact refl s
  have hup : (s.port p).linkUp = true := by
    simp only [PortState.canChoose, Bool.and_eq_true] at hchoose
    exact hchoose.1.1
  have hwf (hs : s.LinkSound) : f.wf = true := (hs.admits (q := q) (hq ▸ List.mem_cons_self)).wf
  refine of_sound (setPort_linkUp (s := s.setQueue q rest) (p := p) rfl) fun hs => ?_
  exact ((dequeue hq).trans (setSending hup (hwf hs))).sound hs

end State.Leads
end

end Sys2Proof.Machine
end

section
/-! # The work of the links, of the requests and of the domain controller leads to sound links -/

-- One declaration at a time: the threads that would wait for the kernel go past the limit on memory.
set_option Elab.async false

namespace Sys2Proof.Machine

open Sys2Proof

/-! ## What the invariant does not see -/

@[simp] theorem links_notify (s : State) (n : Notice) : (s.notify n).links = s.links := rfl

@[simp] theorem links_notifyIf (s : State) (c : Bool) (n : Notice) : (s.notifyIf c n).links = s.links := by
  cases c <;> rfl

@[simp] theorem links_linkError (s : State) (p : Port) : (s.linkError p).links = s.links := by
  cases p <;> rfl

@[simp] theorem links_discard (s : State) (p : Port) (n : Nat) : (s.discard p n).links = s.links := by
  cases p <;> rfl

@[simp] theorem links_setEmitted (s : State) (p : Port) (sig : Byte) (l : Level) :
    (s.setEmitted p sig l).links = s.links := by
  cases p <;> rfl

@[simp] theorem links_setLine (s : State) (l : WakeLine) (b : Bool) : (s.setLine l b).links = s.links := by
  cases l <;> rfl

@[simp] theorem links_pushUndo (s : State) (r : UndoRecord) : (s.pushUndo r).links = s.links := by
  obtain ⟨-, -, e⟩ | e := pushUndo_cases s r <;> rw [e]
  rfl

@[simp] theorem links_countMiss (s : State) (a : BitVec 4) : (s.countMiss a).links = s.links := by
  unfold State.countMiss
  split <;> rfl

@[simp] theorem links_writeLevel (s : State) (p : Port) (a : BitVec 4) (n : Byte) (l : Level) :
    (s.writeLevel p a n l).links = s.links := by
  cases hi : s.findSignal p a n with
  | none => simp only [State.writeLevel, hi]
  | some i =>
    simp only [State.writeLevel, hi]
    split
    · exact links_of_eq rfl rfl rfl
    · rfl

@[simp] theorem links_tryPinned (s : State) (d : DomainId) : (s.tryPinned d).links = s.links := by
  rw [tryPinned_shape]
  exact links_of_eq rfl rfl rfl

@[simp] theorem links_parentArrived (s : State) (d : DomainId) : (s.parentArrived d).links = s.links := by
  rw [parentArrived_shape]
  exact links_of_eq rfl rfl rfl

@[simp] theorem links_enterPlatform (s : State) (p : PlatformState) : (s.enterPlatform p).links = s.links := by
  rw [enterPlatform_shape]
  rfl

@[simp] theorem links_leavePark (s : State) : s.leavePark.links = s.links := by
  obtain ⟨-, e⟩ | ⟨-, e⟩ := leavePark_cases s <;> rw [e]
  exact links_enterPlatform s _

/-! ### Applies -/

theorem links_foldl {α : Type} {f : State → α → State} (h : ∀ t a, (f t a).links = t.links) (l : List α)
    (s : State) : (l.foldl f s).links = s.links :=
  List.foldlRecOn (motive := fun t : State => t.links = s.links) l f rfl fun t ht a _ => (h t a).trans ht

theorem links_recordCopied (s : State) (d : DomainId) (old new : DomainConfig) :
    (s.recordCopied d old new).links = s.links := by
  unfold State.recordCopied State.removeDomain
  dsimp only
  split_ifs <;> rfl

theorem links_copyDomainSet (s : State) (ds : Vector DomainConfig 10) : (s.copyDomainSet ds).links = s.links := by
  refine (links_foldl (fun t d => ?_) allDomains _).trans (links_foldl (fun t d => links_recordCopied ..) allDomains _)
  unfold State.pinnedCopied
  split
  · exact links_tryPinned t d
  · rfl

theorem links_applyDomains (s : State) : s.applyDomains.links = s.links := by
  unfold State.applyDomains
  dsimp only
  split
  · exact links_copyDomainSet s _
  · rfl

theorem links_applyPlan (s : State) (k : SlotId) : (s.applyPlan k).links = s.links := by
  unfold State.applyPlan
  dsimp only
  split <;> rfl

@[simp] theorem links_applySelected (s : State) (sel : ItemId → Bool) : (s.applySelected sel).links = s.links := by
  unfold State.applySelected
  split
  · refine (links_foldl (fun t k => ?_) _ _).trans ?_
    · split
      · exact links_applyPlan t k
      · rfl
    · split
      · exact links_applyDomains s
      · rfl
  · rfl

@[simp] theorem links_applyPendingItems (s : State) : s.applyPendingItems.links = s.links := links_applySelected s _

/-! ### Requests -/

theorem links_command (s : State) (code arg : Nat) : (s.command code arg).1.links = s.links := by
  unfold State.command
  split
  case h_1 =>
    split_ifs
    · rfl
    · rfl
    · exact links_applySelected s _
  case h_2 =>
    split_ifs
    · rfl
    · refine links_foldl (fun t k => ?_) _ s
      split <;> rfl
  case h_3 | h_4 => split_ifs <;> rfl
  all_goals rfl

theorem links_writePattern (s : State) (k : Fin 4) (sel : List (Option Nat)) :
    (s.writePattern k sel).1.links = s.links := by
  have hpattern (q : Option IndPattern) :
      State.links (match q with | some q => s.setPattern k q | none => s) = s.links := by
    cases q <;> rfl
  have htimes (t : State) (x : Option (Nat × Nat)) :
      State.links (match x with | some x => t.setTimes x | none => t) = t.links := by
    cases x <;> rfl
  unfold State.writePattern
  split
  · rfl
  · rfl
  · split
    · rfl
    · dsimp only [accept]
      split_ifs
      · exact (htimes _ _).trans (hpattern _)
      · exact htimes s _
      · exact hpattern _
      · rfl

theorem links_writeSignal (s : State) (i : Fin 64) (sel : List (Option Nat)) :
    (s.writeSignal i sel).1.links = s.links := by
  unfold State.writeSignal
  dsimp only
  split
  · rfl
  · split
    · rfl
    · exact links_of_eq rfl rfl rfl

theorem links_writeWake (s : State) (n : SourceId) (sel : List (Option Nat)) :
    (s.writeWake n sel).1.links = s.links := by
  unfold State.writeWake
  split
  · split <;> rfl
  · split
    · exact links_of_eq rfl rfl rfl
    · rfl

theorem links_writeAgent (s : State) (i : Fin 14) (sel : List (Option Nat)) :
    (s.writeAgent i sel).1.links = s.links := by
  unfold State.writeAgent
  split
  · rfl
  · split
    · exact links_of_eq rfl rfl rfl
    · rfl

theorem links_writeStaged (s : State) (sel : List (Option Nat)) :
    (∀ k, (s.writeHeader k sel).1.links = s.links) ∧ (∀ k i, (s.writeStep k i sel).1.links = s.links)
      ∧ ∀ d, (s.writeDomain d sel).1.links = s.links := by
  unfold State.writeHeader State.writeStep State.writeDomain
  refine ⟨fun k => ?_, fun k i => ?_, fun d => ?_⟩
  · dsimp only
    split
    · split <;> exact links_of_eq rfl rfl rfl
    · rfl
  · dsimp only
    split <;> exact links_of_eq rfl rfl rfl
  · split <;> exact links_of_eq rfl rfl rfl

theorem links_writeCounting (s : State) (d : DomainId) (sel : List (Option Nat)) :
    (s.writeCounting d sel).1.links = s.links := by
  unfold State.writeCounting
  split <;> exact links_of_eq rfl rfl rfl

/-- R182: a write leaves the queues and the links. -/
theorem links_writeTable (s : State) (table index : Nat) (sel : List (Option Nat)) :
    (s.writeTable table index sel).1.links = s.links := by
  obtain ⟨hheader, hstep, hdomain⟩ := links_writeStaged s sel
  unfold State.writeTable
  split
  · exact links_command s _ _
  · split
    · exact hheader _
    · rfl
  · split
    · exact hstep _ _
    · rfl
  · split
    · exact hdomain _
    · rfl
  · split
    · exact links_writeCounting s _ _
    · rfl
  · split
    · exact links_writeSignal s _ _
    · rfl
  · split
    · exact links_writeWake s _ _
    · rfl
  · split
    · exact links_writeAgent s _ _
    · rfl
  · split
    · exact links_writePattern s _ _
    · rfl
  · rfl

/-- R182: an executed request leaves the queues and the links. -/
@[simp] theorem links_execute (s : State) (f : Frame) : (s.execute f).1.links = s.links := by
  have hread (table index : Nat) : (s.executeRead table index).1.links = s.links := by
    unfold State.executeRead State.afterRead
    dsimp only
    split_ifs
    · rfl
    · rfl
    all_goals split <;> rfl
  unfold State.execute
  dsimp only
  split
  · obtain e | ⟨n, -, -, e⟩ | ⟨sel, -, -, -, -, -, -, e⟩ := executeWrite_cases s (f.body.getD 0 0).toNat
      (f.body.getD 1 0).toNat f.mask (f.body.drop 4) <;> rw [e]
    · rfl
    · exact links_writeTable s _ _ sel
  all_goals exact hread _ _

end Sys2Proof.Machine
end

section
/-! # The work of an event leads to sound links -/

-- One declaration at a time: the threads that would wait for the kernel go past the limit on memory.
set_option Elab.async false

namespace Sys2Proof.Machine

open Sys2Proof

/-! ## Fates -/

theorem txQueues_disjoint {q : QueueId} {p r : Port} (hp : q ∈ txQueues p) (hr : q ∈ txQueues r) : r = p := by
  cases p <;> cases r <;> cases q <;> simp_all [txQueues]

/-- A transmit queue of an UP port admits every well-formed frame. -/
theorem State.Admits.of_tx {s : State} {q : QueueId} {f : Frame} {p : Port} (hq : q ∈ txQueues p)
    (hup : (s.port p).linkUp = true) (hf : f.wf = true) : s.Admits q f where
  wf := hf
  up r hr := txQueues_disjoint hq hr ▸ hup
  hub hcfg := by
    subst hcfg
    cases p <;> simp [txQueues] at hq

theorem State.Admits.of_hub {s : State} {f : Frame} (hf : f.wf = true) (h : f.hubRequest) : s.Admits .cfgIn f where
  wf := hf
  up r hr := by cases r <;> simp [txQueues] at hr
  hub _ := h

theorem dn_up_of_agentPowered {s : State} {a : BitVec 4} (h : s.agentPowered a = true) : s.dn.linkUp = true := by
  unfold State.agentPowered at h
  split at h
  · contradiction
  · simp only [Bool.and_eq_true] at h
    exact h.1.2

/-- A fate of a frame at a head places a frame that its queue admits. -/
def State.Places (s : State) (f : Frame) (fate : Fate) : Prop := ∀ x ∈ fate.placed f, s.Admits x.1 x.2

namespace State.Places

variable {s : State} {f : Frame}

theorem none {fate : Fate} (h : fate.placed f = Option.none) : s.Places f fate := by
  intro x hx
  simp [h] at hx

theorem place {q : QueueId} {g : Frame} (h : s.Admits q g) : s.Places f (.place q g) := by
  intro x hx
  exact Option.mem_some_iff.mp hx ▸ h

theorem ite {c : Prop} [Decidable c] {a b : Fate} (ha : c → s.Places f a) (hb : s.Places f b) :
    s.Places f (if c then a else b) := by
  split
  · exact ha ‹_›
  · exact hb

/-- R142, R152: a frame toward UP, under an UP port alone. -/
theorem toUp {q : QueueId} {g : Frame} (hq : q ∈ txQueues .up) (hg : g.wf = true) :
    s.Places f (if s.up.linkUp then .place q g else .discardUp) :=
  .ite (fun hup => .place (.of_tx hq hup hg)) (.none rfl)

/-- R142, R151: a frame toward an agent that is powered. -/
theorem toAgent {g : Frame} {fate : Fate} (hg : g.wf = true) (hfate : s.Places f fate) :
    s.Places f (if s.agentPowered f.dest then .place .dnFwd g else fate) :=
  .ite (fun ha => .place (.of_tx (p := .dn) (by simp [txQueues]) (dn_up_of_agentPowered ha) hg)) hfate

theorem sigFate (hf : f.wf = true) (hk : f.kind = .sig) (p : Port) : s.Places f (s.sigFate p f) := by
  unfold State.sigFate
  refine .ite (fun _ => .none rfl) ?_
  cases p with
  | up => exact .ite (fun _ => .toAgent (forwarded_wf s .up hf hk) (.none rfl)) (.none rfl)
  | dn => exact .ite (fun _ => .toUp (by simp [txQueues]) (forwarded_wf s .dn hf hk)) (.none rfl)

/-- R151: from UP. -/
theorem upFate (hf : f.wf = true) (hup : s.up.linkUp = true) (hsource : f.source = 0) : s.Places f (s.upFate f) := by
  have hcfg (hk : f.kind = .cfgWr ∨ f.kind = .cfgRd) :
      s.Places f (if f.dest = 15 then .place .cfgIn f else .consume) :=
    .ite (fun hd => .place (.of_hub hf ⟨hk, hd, hsource⟩)) (.none rfl)
  have hrsp (a : BitVec 4) : s.Places f (.noAgent a) := by
    intro x hx
    exact Option.mem_some_iff.mp hx ▸ .of_tx (p := .up) (by simp [txQueues]) hup (noAgentReply_wf f a)
  unfold State.upFate
  split
  case h_1 hk => exact .sigFate hf hk .up
  case h_2 => exact .ite (fun _ => .toAgent hf (.ite (fun _ => hrsp _) (.none rfl))) (.none rfl)
  case h_3 => exact .ite (fun _ => .toAgent hf (.none rfl)) (.none rfl)
  case h_4 hk => exact hcfg (.inl hk)
  case h_5 hk => exact hcfg (.inr hk)
  all_goals exact .none rfl

/-- R152: from DN. -/
theorem dnFate (hf : f.wf = true) (hup : s.dn.linkUp = true) : s.Places f (s.dnFate f) := by
  have hdeny : s.Places f .deny := by
    intro x hx
    exact Option.mem_some_iff.mp hx ▸ .of_tx (p := .dn) (by simp [txQueues]) hup (deniedReply_wf f)
  unfold State.dnFate
  split
  case h_1 hk => exact .sigFate hf hk .dn
  case h_2 | h_3 => exact .ite (fun _ => .toUp (by simp [txQueues]) hf) (.none rfl)
  case h_4 | h_5 => exact .ite (fun _ => hdeny) (.none rfl)
  all_goals exact .none rfl

/-- The fate of a held frame. -/
theorem fate (h : s.LinkSound) {p : Port} (hf : (s.port p).head = some f) : s.Places f (s.fate p f) := by
  obtain ⟨-, hhead, -⟩ := h.frames
  obtain ⟨hwf, hsource⟩ := hhead p f hf
  cases p with
  | up => exact .upFate hwf (h.up_of_head (p := .up) hf) (by simpa [sourceAllowed] using hsource)
  | dn => exact .dnFate hwf (h.up_of_head (p := .dn) hf)

end State.Places

/-- R140, R141: the reports of a taken signal carry no frame. -/
theorem sigReports_plain (s : State) (p : Port) (f : Frame) : (s.sigReports p f).all Work.plain = true := by
  have hflags (e : SignalEntry) (l : Level) : (flagReports e l).all Work.plain = true := by
    simp only [flagReports, List.all_append, Bool.and_eq_true]
    refine ⟨⟨⟨⟨?_, ?_⟩, ?_⟩, ?_⟩, ?_⟩
    · split <;> rfl
    · split <;> rfl
    · split <;> rfl
    · split <;> rfl
    · split
      · split <;> rfl
      · rfl
  unfold State.sigReports
  split
  · rfl
  · rw [List.all_append, hflags]
    split_ifs <;> rfl

namespace State.Leads

variable {s : State}

/-! ## Links and frames -/

theorem chooseBoth (s : State) : s.Leads (s.chooseBoth, []) := (chooseFrame s .up).trans (chooseFrame _ .dn)

theorem queueNote (h : s.noteReady = true) : s.Leads (s.queueNote, []) := by
  simp only [State.noteReady, Bool.and_eq_true] at h
  obtain ⟨⟨-, hup⟩, -⟩ := h
  have hadmits : s.Admits .upRsp s.noteFrame := .of_tx (p := .up) (by simp [txQueues]) hup (noteFrame_wf s)
  exact (enqueue hadmits).trans of_links

theorem settle (s : State) (b : Before) : s.Leads (s.settle b) := by
  obtain ⟨p, -, e⟩ | ⟨hnote, e⟩ | e := settle_cases s b <;> rw [e]
  · exact (chooseBoth s).with_work
  · refine ((chooseBoth s).trans (queueNote ?_)).with_work
    simp only [State.noteOffered, Bool.and_eq_true] at hnote
    exact hnote.1
  · exact chooseBoth s

theorem sendOwn (s : State) (p : Port) (sig : Byte) (l : Level) : s.Leads (s.sendOwn p sig l, []) := by
  unfold State.sendOwn
  split
  · rename_i hup
    exact enqueue (.of_tx (by cases p <;> simp [txQueues, ownQueue]) hup (ownSignal_wf sig l))
  · exact of_links (links_discard s p 1)

theorem carryFate {fate : Fate} {f : Frame} (h : s.Places f fate) : s.Leads (s.carryFate fate f, []) := by
  cases fate with
  | consume => exact refl s
  | miss a => exact of_links (links_countMiss s a)
  | noAgent a =>
    have hmiss : s.Leads (s.countMiss a, []) := of_links (links_countMiss s a)
    exact hmiss.trans (enqueue ((h _ rfl).congr hmiss.up))
  | discardUp => exact of_links (links_discard s .up 1)
  | place q g => exact enqueue (h _ rfl)
  | deny => exact enqueue (h _ rfl)

theorem judgeHead (s : State) (p : Port) : s.Leads (s.judgeHead p) := by
  obtain ⟨f, hf, -, e⟩ | e := judgeHead_cases s p <;> rw [e]
  · have hplaces (hs : s.LinkSound) : ∀ w ∈ [Work.carry (s.fate p f) f], s.Allows w :=
      List.forall_mem_singleton.mpr (State.Places.fate hs hf)
    have hempty := emptyHead s p
    refine ite ?_ ⟨hempty.up, hempty.sound, hplaces⟩
    have hlevel := hempty.trans (of_links (links_writeLevel (s.emptyHead p) p f.source f.signal f.level) (ws := []))
    refine ⟨hlevel.up, hlevel.sound, fun hs => List.forall_mem_append.mpr ⟨fun w hw => ?_, hplaces hs⟩⟩
    exact .of_plain (List.all_eq_true.mp (sigReports_plain s p f) w hw)
  · exact refl s

theorem respond {r : Frame} (hr : r.wf = true) : s.Leads (s.respond r, []) := by
  unfold State.respond
  split
  · rename_i hup
    exact enqueue (.of_tx (p := .up) (by simp [txQueues]) hup hr)
  · exact of_links (links_discard s .up 1)

theorem serveRequest (s : State) : s.Leads (s.serveRequest, []) := by
  obtain ⟨f, rest, hq, -, e⟩ | e := serveRequest_cases s <;> rw [e]
  · exact ((dequeue (q := .cfgIn) hq).trans (of_links (links_execute _ f))).trans (respond (execute_response_wf _ f))
  · exact refl s

/-! ## The domain controller -/

theorem startHold (s : State) (d : DomainId) : s.Leads (s.startHold d) := .ite of_links of_links

theorem enableEffect (s : State) (d : DomainId) (a : EnableAnswer) : s.Leads (s.enableEffect d a) := by
  obtain ⟨-, -, e⟩ | e := enableEffect_cases s d a <;> rw [e]
  · unfold State.acceptEnable
    exact .ite (of_links (links_parentArrived _ d)) of_links
  · exact refl s

theorem enterOff (s : State) (d : DomainId) (r : DomainRuntime) : s.Leads (s.enterOff d r) := by
  rw [enterOff_eq]
  exact append (a := (s.changeDom d { r with state := .off }, [.offReport d])) of_links (startHold _ d)

theorem clearFault (s : State) (d : DomainId) : s.Leads (s.clearFault d) := .ite of_links of_links

theorem disableEffect (s : State) (d : DomainId) : s.Leads (s.disableEffect d) := by
  obtain ⟨-, e⟩ | ⟨-, -, -, e⟩ | ⟨-, -, e⟩ | e := disableEffect_cases s d <;> rw [e]
  · exact of_links
  · exact .ite of_links (enterOff s d _)
  · exact clearFault s d
  · exact refl s

theorem faultEntry (s : State) (d : DomainId) (c : FaultCause) : s.Leads (s.faultEntry d c) :=
  trans of_links (startHold _ d)

theorem faultAll (s : State) (c : FaultCause) (ds : List DomainId) : s.Leads (s.faultAll c ds) := by
  induction ds generalizing s with
  | nil => exact refl s
  | cons d ds ih => exact (faultEntry s d c).append (ih _)

theorem faultDomain (s : State) (d : DomainId) (c : FaultCause) : s.Leads (s.faultDomain d c) := by
  have hreports : ((d :: s.cascade d).map s.faultReportOf).all Work.plain = true :=
    List.all_eq_true.mpr (List.forall_mem_map.mpr fun _ _ => rfl)
  rw [faultDomain_eq]
  exact ((refl s).with_work hreports).append (faultEntry s d c) |>.append (faultAll _ .parentLost _)

theorem waitExpiry (s : State) (d : DomainId) (forOn : Bool) : s.Leads (s.waitExpiry d forOn) := by
  obtain ⟨-, -, e⟩ | ⟨-, e⟩ := waitExpiry_cases s d forOn <;> rw [e]
  · exact trans of_links (faultDomain (s.timedOut d) d .timeout)
  · exact of_links

theorem pgRise (s : State) (d : DomainId) : s.Leads (s.pgRise d) := by
  obtain ⟨-, e⟩ | ⟨-, e⟩ | ⟨-, -, e⟩ | ⟨-, e⟩ := pgRise_cases s d <;> rw [e]
  · exact refl s
  · exact of_links
  · exact of_links ((links_parentArrived _ d).trans (links_notifyIf s _ _))
  · exact of_links

theorem pgFall (s : State) (d : DomainId) : s.Leads (s.pgFall d) := by
  obtain ⟨-, e⟩ | ⟨-, -, e⟩ | ⟨-, -, -, e⟩ | ⟨-, -, -, e⟩ | ⟨-, -, -, e⟩ := pgFall_cases s d <;> rw [e]
  · exact refl s
  · exact of_links
  · exact trans of_links (faultDomain (s.setDom d _) d .pgLost)
  · exact trans (of_links (links_notifyIf s _ _)) (enterOff _ d _)
  · exact of_links (links_tryPinned _ d)

theorem holdExpiry (s : State) (d : DomainId) : s.Leads (s.holdExpiry d) := .ite of_links (refl s)

theorem overrangeExpiry (s : State) (d : DomainId) : s.Leads (s.overrangeExpiry d) := .ite of_links (refl s)

theorem sweepDomain (s : State) (d : DomainId) : s.Leads (s.sweepDomain d) := by
  obtain ⟨-, e⟩ | ⟨-, -, e⟩ | ⟨-, -, -, e⟩ | ⟨-, -, -, e⟩ := sweepDomain_cases s d <;> rw [e]
  · exact refl s
  · exact clearFault s d
  · exact of_links
  · exact enterOff s d _

theorem sweepAll (s : State) (ds : List DomainId) : s.Leads (s.sweepAll ds) := by
  induction ds generalizing s with
  | nil => exact refl s
  | cons d ds ih => exact (sweepDomain s d).append (ih _)

end State.Leads

end Sys2Proof.Machine
end

section
/-! # The work of the sequencer and of the wake unit leads to sound links -/

-- One declaration at a time: the threads that would wait for the kernel go past the limit on memory.
set_option Elab.async false

namespace Sys2Proof.Machine

open Sys2Proof

namespace State.Leads

variable {s : State}

/-! ## The end of a step and of a plan -/

theorem completeStep (s : State) : s.Leads s.completeStep := of_links (links_leavePark (s.setWait .idle))

theorem abort (s : State) (c : AbortCause) : s.Leads (s.abort c) := by
  unfold State.abort
  exact of_links (links_enterPlatform _ _)

theorem failStep (s : State) : s.Leads s.failStep := by
  obtain ⟨-, e⟩ | ⟨t, -, ⟨-, e⟩ | ⟨-, e⟩ | ⟨-, e⟩⟩ := failStep_cases s <;> rw [e]
  · exact of_links
  · exact of_links (links_leavePark (s.setWait .idle))
  · exact trans of_links (abort (s.setWait .idle) _)
  · exact of_links

theorem failRollback (s : State) : s.Leads s.failRollback := of_links

theorem recordDone (s : State) : s.Leads s.recordDone := of_links

theorem expireWait (s : State) : s.Leads s.expireWait := by
  obtain ⟨d, b, -, e⟩ | ⟨-, e⟩ | ⟨-, e⟩ | ⟨d, b, -, e⟩ | ⟨-, e⟩ | ⟨-, e⟩ := expireWait_cases s <;> rw [e]
  · exact (waitExpiry s d b).prepend (failStep _)
  · exact completeStep s
  · exact failStep s
  · exact (waitExpiry s d b).prepend (failRollback _)
  · exact failRollback s
  · exact refl s

theorem waitFor (s : State) (w : Wait) : s.Leads (s.waitFor w) :=
  .ite (trans of_links (expireWait (s.setWait w))) of_links

theorem recordWait (s : State) (w : Wait) (b : Nat) : s.Leads (s.recordWait w b) := trans of_links (waitFor _ w)

theorem startEntry (s : State) (t : LowState) : s.Leads (s.startEntry t) := by
  have hentered : s.Leads (State.enterPlatform { s.setUpPlan (entrySlot t) .check none with undo := [] } .checking, []) :=
    of_links (links_enterPlatform _ _)
  exact .ite (hentered.trans (abort _ _)) hentered.with_work

theorem startExit (s : State) (c : WakeCause) : s.Leads (s.startExit c) := by
  unfold State.startExit
  split
  · exact refl s
  · rename_i slot _
    have hexiting : s.Leads (s.exiting slot c, []) := of_links (links_enterPlatform _ _)
    exact .ite (hexiting.trans of_links) hexiting.with_work

theorem takeTrip (s : State) (c : TripCause) : s.Leads (s.takeTrip c) := by
  obtain ⟨-, e⟩ | ⟨-, e⟩ | ⟨-, -, e⟩ := takeTrip_cases s c <;> rw [e]
  · exact of_links
  · exact of_links
  · exact of_links (links_enterPlatform (State.setUpPlan _ 6 .trip (some c.target)) .tripping)

theorem enterRest (s : State) (p : PlatformState) : s.Leads (s.enterRest p, []) := of_links (links_enterPlatform s p)

theorem completeEntry (s : State) : s.Leads s.completeEntry := by
  have hrest : s.Leads (State.enterRest { s with pendingWake := none } (entryRest s.ctx.slot), []) :=
    trans of_links (enterRest { s with pendingWake := none } _)
  unfold State.completeEntry
  dsimp only
  split
  · exact hrest
  · exact hrest.trans (startExit _ _)

theorem completeExit (s : State) : s.Leads s.completeExit := by
  have hrun : s.Leads (State.enterRest { s with pendingRequest := false } .run, []) :=
    trans of_links (enterRest { s with pendingRequest := false } _)
  unfold State.completeExit
  dsimp only
  split
  · exact hrun.trans (startEntry _ _)
  · exact hrun
  · exact hrun

theorem completePlan (s : State) : s.Leads s.completePlan := by
  have happlied (s : State) : s.Leads (s.applyPendingItems, []) := of_links (links_applyPendingItems s)
  cases hp : s.ctx.portion with
  | none => simpa only [State.completePlan, hp] using refl s
  | check | commit => simpa only [State.completePlan, hp] using (happlied s).trans (completeEntry _)
  | exit => simpa only [State.completePlan, hp] using (happlied s).trans (completeExit _)
  | rollback =>
    simp only [State.completePlan, hp]
    exact (happlied s).trans (trans of_links (enterRest _ .run))
  | trip =>
    rw [completePlan_trip hp]
    exact (sweepAll s allDomains).append ((happlied _).trans (enterRest _ _))

/-! ## Steps and undo records -/

theorem recordEmit (s : State) (p : Port) (sig : Byte) (l : Level) : s.Leads (s.recordEmit p sig l, []) :=
  (sendOwn s p sig l).trans (of_links (links_setEmitted _ _ _ _))

theorem emitStep (s : State) (p : Port) (sig : Byte) (l : Level) : s.Leads (s.emitStep p sig l, []) := by
  refine trans ?_ (recordEmit (if s.emitted p sig = l then s else _) p sig l)
  split
  · exact refl s
  · exact of_links (links_pushUndo _ _)

/-- A step that changed a domain records it and completes. -/
theorem recorded {a : Act} (h : s.Leads a) {c : Prop} [Decidable c] (r : UndoRecord) :
    let t := if c then a.1.pushUndo r else a.1
    s.Leads (t.completeStep.1, a.2 ++ t.completeStep.2) := by
  refine h.append (trans ?_ (completeStep _))
  split
  · exact of_links (links_pushUndo _ _)
  · exact refl _

theorem enableAccepted (s : State) (d : DomainId) : s.Leads (s.enableAccepted d) := by
  rw [enableAccepted_eq]
  exact recorded (enableEffect s d _) _

theorem enableStep (s : State) (d : DomainId) : s.Leads (s.enableStep d) := by
  unfold State.enableStep
  split
  · exact enableAccepted s d
  · exact failStep s
  · exact failStep s
  · exact waitFor s _

theorem disableStep (s : State) (d : DomainId) : s.Leads (s.disableStep d) := by
  cases hr : s.disableRefused d
  · rw [disableStep_eq s d hr]
    exact recorded (disableEffect s d) _
  · simpa [State.disableStep, hr] using failStep s

theorem guardStep (s : State) (p : Port) (a : BitVec 4) (sig : Byte) (l : Level) :
    s.Leads (s.guardStep p a sig l) := by
  unfold State.guardStep
  split
  · exact failStep s
  · exact .ite (failStep s) (.ite (completeStep s) (waitFor s _))

theorem commitStep (s : State) : s.Leads s.commitStep := by
  have hcommitting : s.Leads
      (State.enterPlatform { s with ctx := { s.ctx with portion := .commit }, undo := [] } .committing, []) :=
    of_links (links_enterPlatform _ _)
  exact hcommitting.trans (completeStep _)

theorem retryStep (s : State) (t : Step) : s.Leads (s.retryStep t) := by
  unfold State.retryStep
  split_ifs
  · exact completeStep s
  · exact .ite of_links (failStep s)
  · exact failStep s

theorem stepAction (s : State) (t : Step) : s.Leads (s.stepAction t) := by
  unfold State.stepAction
  split
  case h_1 d _ _ => exact enableStep s d
  case h_2 d _ _ => exact disableStep s d
  case h_3 d _ _ => exact .ite (completeStep s) (waitFor s _)
  case h_4 d _ _ => exact .ite (completeStep s) (waitFor s _)
  case h_5 p _ _ => exact .ite ((emitStep s p _ _).trans (completeStep _)) (waitFor s _)
  case h_6 p _ _ => exact .ite (completeStep s) (waitFor s _)
  case h_7 p _ _ => exact guardStep s p _ _ _
  case h_8 => exact waitFor s _
  case h_9 => exact trans (of_links (links_enterPlatform s _)) (waitFor _ _)
  case h_10 => exact commitStep s
  case h_11 => exact retryStep s t
  all_goals exact failStep s

theorem startStep (s : State) (i : Nat) : s.Leads (s.startStep i) := by
  obtain ⟨-, e⟩ | ⟨p, -, -, e⟩ | ⟨p, t, -, -, e⟩ := startStep_cases s i <;> rw [e]
  · exact refl s
  · exact completePlan s
  · exact trans of_links (stepAction _ t)

theorem recordEnabled (s : State) (d : DomainId) : s.Leads (s.recordEnabled d) := by
  rw [recordEnabled_eq]
  exact (enableEffect s d .accepted).append (.ite (recordDone _) (recordWait _ _ _))

theorem recordOn (s : State) (d : DomainId) : s.Leads (s.recordOn d) := by
  unfold State.recordOn
  split
  · exact recordEnabled s d
  all_goals exact of_links

theorem recordOff (s : State) (d : DomainId) : s.Leads (s.recordOff d) := by
  cases hr : s.disableRefused d
  · rw [recordOff_eq s d hr]
    exact (disableEffect s d).append (.ite (recordDone _) (.ite (recordDone _) (recordWait _ _ _)))
  · simpa [State.recordOff, hr] using failRollback s

theorem recordSignal (s : State) (p : Port) (sig : Byte) (l : Level) : s.Leads (s.recordSignal p sig l) :=
  .ite ((recordEmit s p sig l).trans (recordDone _)) (recordWait s _ _)

theorem nextRecord (s : State) : s.Leads s.nextRecord := by
  unfold State.nextRecord
  split
  · exact completePlan s
  · dsimp only
    split
    · exact trans of_links (recordOn _ _)
    · exact trans of_links (recordOff _ _)
    · exact trans of_links (recordSignal _ _ _ _)

/-! ## Reports of the domain controller -/

theorem pinnedWaitTest (s : State) : s.Leads s.pinnedWaitTest := .ite of_links (refl s)

theorem takeOn (s : State) (d : DomainId) : s.Leads (s.takeOn d) :=
  .ite (completeStep s) (.ite (recordDone s) (pinnedWaitTest s))

theorem takeOff (s : State) (d : DomainId) : s.Leads (s.takeOff d) :=
  .ite (completeStep s) (.ite (recordDone s) (refl s))

theorem takeFault (s : State) (d : DomainId) (c : Bool) : s.Leads (s.takeFault d c) :=
  .ite (takeTrip s _) (pinnedWaitTest s)

theorem takeOverrange (s : State) (d : DomainId) : s.Leads (s.takeOverrange d) :=
  .ite (.ite of_links (refl s)) (.ite (failRollback s) (refl s))

theorem judgeDeferred (s : State) (d : DomainId) : s.Leads (s.judgeDeferred d) := by
  unfold State.judgeDeferred
  refine .ite ?_ (.ite ?_ (refl s))
  · split
    · exact enableAccepted s d
    · exact failStep s
    · exact failStep s
    · exact refl s
  · split
    · exact recordEnabled s d
    · exact failRollback s
    · exact failRollback s
    · exact refl s

theorem holdOver (s : State) (d : DomainId) : s.Leads (s.holdOver d) := by
  rw [holdOver_eq]
  exact (judgeDeferred s d).join (of_links (links_tryPinned _ d) (ws := [])) fun _ => .inl

/-! ## Effects of the classifier -/

theorem newRequest (s : State) (r : Requested) : s.Leads (s.newRequest r) := by
  unfold State.newRequest
  cases r with
  | run =>
    dsimp only
    split
    case h_1 | h_2 => exact abort s .cancel
    case h_4 | h_5 | h_6 => exact startExit s .hub
    all_goals exact of_links
  | low t =>
    dsimp only
    split
    case h_1 => exact startEntry s t
    case h_2 | h_3 => exact of_links (links_notifyIf _ _ _)
    all_goals exact of_links

theorem requestEffect (s : State) : s.Leads s.requestEffect := .ite (refl s) (trans of_links (newRequest _ _))

theorem tripEffect (s : State) (l : Level) : s.Leads (s.tripEffect l) := .ite (takeTrip s _) (refl s)

theorem vetoEffect (s : State) (l : Level) : s.Leads (s.vetoEffect l) := .ite (abort s _) (refl s)

theorem releaseEffect (s : State) (l : Level) : s.Leads (s.releaseEffect l) := .ite (completeStep s) (refl s)

theorem levelReport (s : State) (p : Port) (a : BitVec 4) (sig : Byte) (l : Level) :
    s.Leads (s.levelReport p a sig l) := .ite (completeStep s) (refl s)

/-! ## Arrivals -/

theorem arrival (s : State) (n : SourceId) : s.Leads (s.arrival n) := by
  have hcaptured : s.Leads (s.capture n (s.judgeArrival n), []) := of_links
  refine .ite ?_ (refl s)
  cases hj : s.judgeArrival n <;> rw [hj] at hcaptured
  case none => exact hcaptured
  case woke => exact hcaptured.trans (startExit _ _)
  case aborted => exact hcaptured.trans (abort _ _)
  case pended => exact hcaptured.trans of_links

theorem arrivals (s : State) (ns : List SourceId) : s.Leads (s.arrivals ns) := by
  induction ns generalizing s with
  | nil => exact refl s
  | cons n ns ih => exact (arrival s n).append (ih _)

theorem wakeEffect (s : State) (n : SourceId) (l : Level) : s.Leads (s.wakeEffect n l) := .ite (arrival s n) (refl s)

theorem vetoWakeEffect (s : State) (n : SourceId) (l : Level) : s.Leads (s.vetoWakeEffect n l) :=
  (vetoEffect s l).prepend (wakeEffect _ n l)

/-! ## Events of the sequencer's own waits -/

theorem emitPlaced (s : State) : s.Leads s.emitPlaced := by
  unfold State.emitPlaced
  split
  · exact .ite ((emitStep s _ _ _).trans (completeStep _)) (refl s)
  · exact refl s

theorem syncComplete (s : State) : s.Leads s.syncComplete := by
  unfold State.syncComplete
  split
  · exact .ite (completeStep s) (refl s)
  · exact refl s

theorem rollbackPlaced (s : State) : s.Leads s.rollbackPlaced := by
  unfold State.rollbackPlaced
  split
  · exact .ite ((recordEmit s _ _ _).trans (recordDone _)) (refl s)
  · exact refl s

theorem portWentDown (s : State) (p : Port) : s.Leads (s.portWentDown p) := by
  unfold State.portWentDown
  split
  · exact .ite ((emitStep s _ _ _).trans (completeStep _)) (refl s)
  · exact .ite (completeStep s) (refl s)
  · exact .ite ((recordEmit s _ _ _).trans (recordDone _)) (refl s)
  · exact refl s

theorem expireIf (s : State) (k : Wait → Bool) : s.Leads (s.expireIf k) := .ite (expireWait s) (refl s)

/-! ## Every piece of work -/

theorem micro {w : Work} (h : s.Allows w) : s.Leads (micro w s) := by
  cases w with
  | start i => exact startStep s i
  | rollback => exact nextRecord s
  | onReport d => exact takeOn s d
  | offReport d => exact takeOff s d
  | faultReport d c => exact takeFault s d c
  | overrangeReport d => exact takeOverrange s d
  | holdOver d => exact holdOver s d
  | tripCause c => exact takeTrip s c
  | arrival n => exact arrival s n
  | levelReport p a g l => exact levelReport s p a g l
  | requestEffect => exact requestEffect s
  | tripEffect l => exact tripEffect s l
  | vetoEffect l => exact vetoEffect s l
  | releaseEffect l => exact releaseEffect s l
  | wakeEffect n l => exact wakeEffect s n l
  | vetoWakeEffect n l => exact vetoWakeEffect s n l
  | carry fate f => exact carryFate h
  | judge p => exact judgeHead s p
  | portDown p => exact portWentDown s p
  | serve => exact serveRequest s
  | settle b => exact settle s b

end State.Leads

end Sys2Proof.Machine
end

section
/-! # Every step keeps the links sound -/

-- One declaration at a time: the threads that would wait for the kernel go past the limit on memory.
set_option Elab.async false

namespace Sys2Proof.Machine

open Sys2Proof

/-! ## The links as commands change them -/

theorem flushQueues_port (s : State) (p r : Port) : (s.flushQueues p).port r = s.port r := by
  cases p <;> simp [State.flushQueues, txQueues]

/-- R161: a port's transmit queues are empty after the flush. -/
theorem flushQueues_queue (s : State) {p : Port} {q : QueueId} (hq : q ∈ txQueues p) : (s.flushQueues p).queue q = [] := by
  cases p <;> cases q <;> simp [txQueues] at hq <;> rfl

namespace State.LinkSound

variable {s t : State}

theorem flushQueues (h : s.LinkSound) (p : Port) : (s.flushQueues p).LinkSound :=
  List.foldlRecOn (motive := State.LinkSound) (txQueues p) _ h fun _ ht _ _ =>
    ht.setQueue (Nat.zero_le _) fun _ hf => absurd hf List.not_mem_nil

/-- R161: a port that has gone DOWN holds nothing. -/
theorem linkGoesDown (h : s.LinkSound) (p : Port) : (s.linkGoesDown p).1.LinkSound := by
  unfold State.linkGoesDown
  split
  · exact h
  · refine congr ?_ (links_discard _ p _)
    exact (h.flushQueues p).setPort (fun _ => ⟨rfl, rfl, fun q hq => flushQueues_queue s hq⟩) nofun nofun

theorem linkGoesUp (h : s.LinkSound) (p : Port) : (s.linkGoesUp p).LinkSound := by
  obtain ⟨-, hhead, hsending, -⟩ := h.frames
  exact h.setPort nofun (hhead p) (hsending p)

theorem setPartnerReady (h : s.LinkSound) (p : Port) (b : Bool) : (s.setPartnerReady p b).LinkSound := by
  cases p <;> exact h.congr rfl

theorem endTransmission (h : s.LinkSound) (p : Port) : (s.endTransmission p).LinkSound := by
  obtain ⟨-, hhead, -⟩ := h.frames
  refine h.setPort (fun hdown => ?_) (hhead p) nofun
  obtain ⟨hnone, -, hqueues⟩ := h.empty p hdown
  exact ⟨hnone, rfl, hqueues⟩

/-- R149, R163: an UP port's head takes a frame that it accepts. -/
theorem setHead (h : s.LinkSound) {p : Port} {f : Frame} (hup : (s.port p).linkUp = true) (hf : f.wf = true)
    (hsource : sourceAllowed p f.source = true) : (s.setPort p { s.port p with head := some f }).LinkSound := by
  obtain ⟨-, -, hsending, -⟩ := h.frames
  refine h.setPort (fun hdown => absurd (hup.symm.trans hdown) (by decide)) (fun g hg => ?_) (hsending p)
  exact Option.some.inj hg ▸ ⟨hf, hsource⟩

/-- R19: at power-on both ports are DOWN and everything is empty. -/
theorem powerOn (s : State) (strap : Strap) (wakeA wakeB low : Bool) (pg : BitVec 10) :
    (s.powerOn strap wakeA wakeB low pg).LinkSound where
  bounded q := by cases q <;> exact Nat.zero_le _
  empty p _ := by cases p <;> exact ⟨rfl, rfl, fun q _ => by cases q <;> rfl⟩
  frames := by
    refine ⟨fun q f hf => ?_, fun p f hf => ?_, fun p x hx => ?_, fun f hf => absurd hf List.not_mem_nil⟩
    · cases q <;> exact absurd hf List.not_mem_nil
    · cases p <;> contradiction
    · cases p <;> contradiction

end State.LinkSound

namespace State.Leads

variable {s : State}

/-! ## The beginnings of commands -/

theorem setHead {p : Port} {f : Frame} (hup : (s.port p).linkUp = true) (hf : f.wf = true)
    (hsource : sourceAllowed p f.source = true) : s.Leads (s.setPort p { s.port p with head := some f }, []) :=
  setPort rfl fun hs => hs.setHead hup hf hsource

theorem setButton (s : State) (b : ButtonUnit) : s.Leads (s.setButton b, []) := of_links

theorem buttonEmit (s : State) (l : Level) : s.Leads (s.buttonEmit l, []) := by
  obtain ⟨hroom, e⟩ | ⟨-, e⟩ := buttonEmit_cases s l <;> rw [e]
  · have hadmits : s.Admits .upOwn (ownSignal buttonSignal l) :=
      .of_tx (p := .up) (by simp [txQueues]) (Bool.and_elim_left hroom) (ownSignal_wf _ l)
    exact (enqueue hadmits).trans (setButton _ _)
  · exact trans (of_links (links_discard s .up 1)) (setButton _ _)

theorem buttonRises (s : State) : s.Leads (s.buttonRises, []) := by
  unfold State.buttonRises
  split
  · exact refl s
  · dsimp only
    split
    · exact setButton s _
    · exact setButton s _
    all_goals
      split
      · exact (setButton s _).trans (buttonEmit _ _)
      · exact setButton s _

theorem recognize (s : State) : s.Leads s.recognize :=
  .ite (refl s) (.ite ((setButton s _).trans (buttonEmit _ _)) (setButton s _).with_work)

theorem overrideActs (s : State) : s.Leads s.overrideActs := by
  refine .ite (refl s) ((setButton s _).with_work ?_)
  split <;> rfl

theorem receive (s : State) (p : Port) (bytes : List Byte) : s.Leads (s.receive p bytes) := by
  obtain ⟨-, e⟩ | e | ⟨f, hup, hf, -, e⟩ := receive_cases s p bytes <;> rw [e]
  · exact refl s
  · exact of_links (links_linkError s p)
  · obtain ⟨hwf, hsource⟩ := receivedFrame_sound hf
    exact (setHead hup hwf hsource).with_work

theorem offerRequest (s : State) {f : Frame} (h : f.hubRequest) : s.Leads (s.offerRequest f) := by
  unfold State.offerRequest
  split
  · split
    · exact of_links (links_linkError s .up)
    · exact refl s
  rename_i hmalformed
  have hf : f.wf = true := by simpa using hmalformed
  refine .ite (refl s).with_work (.ite (of_links (links_linkError s .up)) (.ite (enqueue (.of_hub hf h)).with_work ?_))
  split
  · refine ⟨(refl s).up, id, fun _ => List.forall_mem_cons.mpr ⟨.of_plain rfl, List.forall_mem_singleton.mpr ?_⟩⟩
    exact State.Places.place (.of_hub hf h)
  · rename_i hserve
    have hup : s.up.linkUp = true := by
      simp only [State.mayServe, Bool.or_eq_true, Bool.not_eq_true', not_or, Bool.not_eq_false] at hserve
      exact hserve.1
    have hsource : sourceAllowed .up f.source = true := by simp [sourceAllowed, h.2.2]
    exact setHead (p := .up) hup hf hsource

end State.Leads

/-! ## Events and commands -/

namespace State.LinkSound

variable {s t : State} {b : Before} {a : Act}

/-- An event that begins with the links sound, and with work that places what its queues take, ends with them sound. -/
theorem finish (h : a.1.LinkSound) (hw : ∀ w ∈ a.2, a.1.Allows w) (e : finish b a = .next t) : t.LinkSound := by
  refine (event_keeps (P := fun ws u => u.LinkSound ∧ ∀ w ∈ ws, u.Allows w) (fun w ws u hu => ?_) ⟨h, ?_⟩ e).1
  · obtain ⟨hsound, hallows⟩ := hu
    obtain ⟨hfirst, hrest⟩ := List.forall_mem_cons.mp hallows
    have hleads := State.Leads.micro hfirst
    refine ⟨hleads.sound hsound, List.forall_mem_append.mpr ⟨fun v hv => ?_, fun v hv => ?_⟩⟩
    · exact (hleads.work hsound v hv).congr hleads.up
    · exact (hrest v hv).congr hleads.up
  · exact List.forall_mem_append.mpr ⟨hw, List.forall_mem_singleton.mpr trivial⟩

/-- An event without work. -/
theorem finish_quiet (h : t.LinkSound) {u : State} (e : Machine.finish b (t, []) = .next u) : u.LinkSound :=
  h.finish (a := (t, [])) (fun _ hw => absurd hw List.not_mem_nil) e

theorem finish_leads (h : s.LinkSound) (hl : s.Leads a) (e : Machine.finish b a = .next t) : t.LinkSound :=
  (hl.sound h).finish (fun w hw => (hl.work h w hw).congr hl.up) e

theorem exec (h : s.LinkSound) {c : Instr} (e : exec c s = .next t) : t.LinkSound := by
  cases c with
  | powerOnReset strap wakeA wakeB low pg =>
    have hon := powerOn s strap wakeA wakeB low pg
    simp only [Machine.exec, execPowerOnReset, State.event] at e
    cases strap
    · exact hon.finish_leads (.startExit _ _) e
    · exact hon.finish_quiet e
  | linkUp p =>
    simp only [Machine.exec, execLinkUp] at e
    split at e
    · exact Host.Outcome.next.inj e ▸ h
    · exact (h.linkGoesUp p).finish_quiet e
  | linkDown p =>
    simp only [Machine.exec, execLinkDown] at e
    split at e
    · refine (h.linkGoesDown p).finish (fun w hw => ?_) e
      unfold State.linkGoesDown at hw
      split at hw
      · exact absurd hw List.not_mem_nil
      · exact List.mem_singleton.mp hw ▸ trivial
    · exact Host.Outcome.next.inj e ▸ h
  | frameReceived p bytes => exact h.finish_leads (.receive s p bytes) e
  | frameTaken p => exact h.finish_leads (a := (s, [.judge p])) (State.Leads.refl s).with_work e
  | partnerReadyAsserted p => exact (h.setPartnerReady p true).finish_quiet e
  | partnerReadyDeasserted p => exact (h.setPartnerReady p false).finish_quiet e
  | transmissionEnd p => exact (h.endTransmission p).finish_quiet e
  | noteQueued =>
    refine h.finish_leads (a := (s.tryNote, [])) ?_ e
    obtain ⟨hnote, e⟩ | e := tryNote_cases s <;> rw [e]
    · exact .queueNote hnote
    · exact .refl s
  | emitFramePlaced => exact h.finish_leads (.emitPlaced s) e
  | syncComplete => exact h.finish_leads (.syncComplete s) e
  | rollbackSignalPlaced => exact h.finish_leads (.rollbackPlaced s) e
  | pgRise d => exact h.finish_leads (.pgRise s d) e
  | pgFall d => exact h.finish_leads (.pgFall s d) e
  | holdOffExpiry d => exact h.finish_leads (.holdExpiry s d) e
  | overrangeExpiry d => exact h.finish_leads (.overrangeExpiry s d) e
  | budgetExpiry => exact h.finish_leads (.expireIf s _) e
  | parkLimit => exact h.finish_leads (.expireIf s _) e
  | rollbackWaitExpiry => exact h.finish_leads (.expireIf s _) e
  | wakeLineAssertion l =>
    exact h.finish_leads (.ite (.refl s) (.trans (.of_links (links_setLine s l true)) (.arrivals _ _))) e
  | wakeLineFallingEdge l => exact Host.Outcome.next.inj e ▸ h.congr (links_setLine s l false)
  | pressEdge =>
    have hfalls : s.Leads (s.buttonFalls, []) := by
      unfold State.buttonFalls
      split_ifs
      · exact .refl s
      · exact .setButton s _
      · exact .setButton s _
    exact Host.Outcome.next.inj e ▸ hfalls.sound h
  | release => exact h.finish_leads (.buttonRises s) e
  | debounceExpiry => exact h.finish_leads (.recognize s) e
  | overrideExpiry => exact h.finish_leads (.overrideActs s) e
  | indicatorPhaseAdvance => exact Host.Outcome.next.inj e ▸ h.congr
  | domainStatusRead => exact h.finish_leads (.offerRequest s ⟨.inr rfl, rfl, rfl⟩) e
  | applyNow | applyAtRest | clearNotices | setNoticeEnable | restoreStaged | clearTripRecord | clearCounters
  | stagedWrite | signalTableWrite | wakeTableWrite | captureRecordClear | agentTableWrite | countingEnableWrite
  | indicatorPatternWrite | buttonTimesWrite | cfgWr => exact h.finish_leads (.offerRequest s ⟨.inl rfl, rfl, rfl⟩) e

end State.LinkSound

end Sys2Proof.Machine

open Sys2Proof Sys2Proof.Machine in
/-- Settles O56: every piece of work keeps the links sound and carries frames that their queues take, and so does every
command's beginning. -/
theorem stepKeepsLinkSound : Obligations.StepKeepsLinkSound := by
  rintro s t ⟨hbounded, hempty, hframes⟩ hstep
  have hs : s.LinkSound := ⟨hbounded, hempty, hframes⟩
  have ht : t.LinkSound := step_keeps (P := State.LinkSound) (fun _ _ _ h e => h.exec e) (fun _ _ h => h.congr)
    (fun _ h => h.congr) hs hstep
  exact ⟨ht.bounded, ht.empty, ht.frames⟩
end

section
/-! # Transmitters, the end of an event, and routes

What a transmitter takes of its queues, what the end of an event takes and adds, and where a frame that is no signal
goes. -/

-- One declaration at a time: the threads that would wait for the kernel go past the limit on memory.
set_option Elab.async false

namespace Sys2Proof.Machine

open Sys2Proof

/-! ## Heads -/

theorem State.HeadsEmpty.head {s : State} (h : s.HeadsEmpty) (p : Port) : (s.port p).head = none := by
  cases p
  · exact h.1
  · exact h.2

theorem State.HeadsEmpty.of_head {s : State} (h : ∀ p, (s.port p).head = none) : s.HeadsEmpty := ⟨h .up, h .dn⟩

/-- A port's new state with an empty head, the other head being empty. -/
theorem State.HeadsEmpty.setPort {s : State} {p : Port} {x : PortState} (hx : x.head = none)
    (h : ∀ r, r ≠ p → (s.port r).head = none) : (s.setPort p x).HeadsEmpty := by
  refine .of_head fun r => ?_
  obtain rfl | hne := eq_or_ne r p
  · rw [State.port_setPort_self, hx]
  · rw [State.port_setPort_of_ne _ _ hne, h r hne]

/-! ## What a transmitter takes (R155, R156) -/

theorem canChoose_iff (x : PortState) :
    x.canChoose = true ↔ x.linkUp = true ∧ x.partnerReady = true ∧ x.sending = none := by
  simp [PortState.canChoose, and_assoc]

/-- A transmitter that may choose takes the head of its first non-empty queue. -/
theorem chooseFrame_of_first {s : State} {p : Port} {q : QueueId} {f : Frame} {rest : List Frame}
    (hc : (s.port p).linkUp = true ∧ (s.port p).partnerReady = true ∧ (s.port p).sending = none)
    (hq : ((txQueues p).find? fun r => !(s.queue r).isEmpty) = some q) (hf : s.queue q = f :: rest) :
    s.chooseFrame p = (s.setQueue q rest).setPort p { s.port p with sending := some (q, f) } := by
  simp [State.chooseFrame, (canChoose_iff _).mpr hc, hq, hf]

/-- The transmitter of a port is left, its queues having gained `extra` at their tails; or it could choose, and has taken
the head of one of them. -/
def State.Sends (s t : State) (extra : QueueId → List Frame) (p : Port) : Prop :=
  (t.port p = s.port p ∧ ∀ q ∈ txQueues p, t.queue q = s.queue q ++ extra q)
    ∨ (s.port p).canChoose = true ∧ ∃ q f, q ∈ txQueues p ∧ t.port p = { s.port p with sending := some (q, f) }
        ∧ s.queue q ++ extra q = f :: t.queue q ∧ ∀ r ∈ txQueues p, r ≠ q → t.queue r = s.queue r ++ extra r

/-- Nothing joins a queue. -/
def noExtra : QueueId → List Frame := fun _ => []

theorem chooseFrame_sends (s : State) (p : Port) : s.Sends (s.chooseFrame p) noExtra p := by
  obtain e | ⟨q, f, rest, hc, hq, hf, -, e⟩ := chooseFrame_cases s p <;> rw [e]
  · exact .inl ⟨rfl, fun _ _ => (List.append_nil _).symm⟩
  · have hqueue : ((s.setQueue q rest).setPort p { s.port p with sending := some (q, f) }).queue q = rest := by
      rw [State.queue_setPort, State.queue_setQueue_self]
    refine .inr ⟨hc, q, f, hq, State.port_setPort_self .., by simp [noExtra, hqueue, hf], fun r _ hne => ?_⟩
    rw [State.queue_setPort, State.queue_setQueue_of_ne _ _ hne]
    exact (List.append_nil _).symm

/-- A transmitter leaves the other port and every queue that is not its own. -/
theorem chooseFrame_frame (s : State) (p : Port) :
    (∀ r, r ≠ p → (s.chooseFrame p).port r = s.port r)
      ∧ (∀ q, q ∉ txQueues p → (s.chooseFrame p).queue q = s.queue q)
      ∧ (s.chooseFrame p).beside = s.beside := by
  obtain e | ⟨q, f, rest, -, hq, -, -, e⟩ := chooseFrame_cases s p <;> rw [e]
  · exact ⟨fun _ _ => rfl, fun _ _ => rfl, rfl⟩
  · refine ⟨fun r hne => State.port_setPort_of_ne _ _ hne, fun r hr => ?_, by cases p <;> rfl⟩
    rw [State.queue_setPort, State.queue_setQueue_of_ne _ _ (ne_of_mem_of_not_mem hq hr).symm]

/-- What a transmitter does is seen in its port and in its queues alone. -/
theorem State.Sends.congr {s t s' t' : State} {extra : QueueId → List Frame} {p : Port} (h : s.Sends t extra p)
    (hs : s'.port p = s.port p) (hqs : ∀ q ∈ txQueues p, s'.queue q = s.queue q) (ht : t'.port p = t.port p)
    (hqt : ∀ q ∈ txQueues p, t'.queue q = t.queue q) : s'.Sends t' extra p := by
  obtain ⟨hport, hqueues⟩ | ⟨hc, q, f, hq, hport, hf, hqueues⟩ := h
  · exact .inl ⟨by rw [ht, hs, hport], fun q hq => by rw [hqt q hq, hqs q hq, hqueues q hq]⟩
  · refine .inr ⟨hs ▸ hc, q, f, hq, by rw [ht, hs, hport], by rw [hqs q hq, hqt q hq, hf], fun r hr hne => ?_⟩
    rw [hqt r hr, hqs r hr, hqueues r hr hne]

/-- A transmitter that chooses twice, its queues gaining `extra` in between, takes at most one frame: after the first it
is sending. -/
theorem State.Sends.trans {s c u t : State} {extra : QueueId → List Frame} {p : Port} (h : s.Sends c noExtra p)
    (hport : u.port p = c.port p) (hqueues : ∀ q ∈ txQueues p, u.queue q = c.queue q ++ extra q)
    (k : u.Sends t noExtra p) : s.Sends t extra p := by
  simp only [State.Sends, noExtra, List.append_nil] at h k
  obtain ⟨hport₁, hqueues₁⟩ | ⟨hc, q, f, hq, hport₁, hf, hqueues₁⟩ := h
  · have hport' : u.port p = s.port p := hport.trans hport₁
    have hqueues' : ∀ q ∈ txQueues p, u.queue q = s.queue q ++ extra q := fun q hq => by
      rw [hqueues q hq, hqueues₁ q hq]
    obtain ⟨hport₂, hqueues₂⟩ | ⟨hc, q, f, hq, hport₂, hf, hqueues₂⟩ := k
    · exact .inl ⟨hport₂.trans hport', fun q hq => (hqueues₂ q hq).trans (hqueues' q hq)⟩
    · refine .inr ⟨hport' ▸ hc, q, f, hq, by rw [hport₂, hport'], by rw [← hqueues' q hq, hf], fun r hr hne => ?_⟩
      exact (hqueues₂ r hr hne).trans (hqueues' r hr)
  · have hbusy : (u.port p).canChoose = false := by simp [PortState.canChoose, hport, hport₁]
    obtain ⟨hport₂, hqueues₂⟩ | ⟨hc', -⟩ := k
    · refine .inr ⟨hc, q, f, hq, by rw [hport₂, hport, hport₁], ?_, fun r hr hne => ?_⟩
      · rw [hqueues₂ q hq, hqueues q hq, hf, List.cons_append]
      · rw [hqueues₂ r hr, hqueues r hr, hqueues₁ r hr hne]
    · exact absurd (hbusy.symm.trans hc') (by decide)

theorem chooseBoth_sends (s : State) (p : Port) : s.Sends s.chooseBoth noExtra p := by
  obtain ⟨hportU, hqueueU, -⟩ := chooseFrame_frame s .up
  obtain ⟨hportD, hqueueD, -⟩ := chooseFrame_frame (s.chooseFrame .up) .dn
  cases p with
  | up =>
    have hother : ∀ q ∈ txQueues .up, q ∉ txQueues .dn := by decide
    exact (chooseFrame_sends s .up).congr rfl (fun _ _ => rfl) (hportD .up (by decide))
      fun q hq => hqueueD q (hother q hq)
  | dn =>
    have hother : ∀ q ∈ txQueues .dn, q ∉ txQueues .up := by decide
    exact (chooseFrame_sends (s.chooseFrame .up) .dn).congr (hportU .dn (by decide)).symm
      (fun q hq => (hqueueU q (hother q hq)).symm) rfl fun _ _ => rfl

theorem chooseBoth_beside (s : State) : s.chooseBoth.beside = s.beside := by
  obtain ⟨-, -, hup⟩ := chooseFrame_frame s .up
  obtain ⟨-, -, hdn⟩ := chooseFrame_frame (s.chooseFrame .up) .dn
  exact hdn.trans hup

theorem chooseBoth_notices (s : State) : s.chooseBoth.notices = s.notices := by
  rw [State.chooseBoth, chooseFrame_notices, chooseFrame_notices]

/-! ## The NOTE (R191) -/

theorem noteReady_iff (s : State) :
    s.noteReady = true ↔ s.notices.owed = true ∧ s.up.linkUp = true ∧ s.hasPlace .upRsp = true := by
  simp [State.noteReady, and_assoc]

/-- The frames that a NOTE adds to the queues. -/
def withNote (note : List Frame) (q : QueueId) : List Frame := if q = .upRsp then note else []

theorem queueNote_eq {s : State} (h : s.noteReady = true) :
    s.queueNote =
      { s.setQueue .upRsp (s.queue .upRsp ++ [s.noteFrame]) with notices := { s.notices with owed := false } } := by
  obtain ⟨-, -, hplace⟩ := (noteReady_iff s).mp h
  simp [State.queueNote, State.enqueue, hplace]

theorem queueNote_queue {s : State} (h : s.noteReady = true) (q : QueueId) :
    s.queueNote.queue q = s.queue q ++ withNote [s.noteFrame] q := by
  rw [queueNote_eq h]
  change (s.setQueue .upRsp (s.queue .upRsp ++ [s.noteFrame])).queue q = _
  by_cases hq : q = .upRsp
  · rw [hq, State.queue_setQueue_self, withNote, if_pos rfl]
  · rw [State.queue_setQueue_of_ne _ _ hq, withNote, if_neg hq, List.append_nil]

theorem queueNote_port (s : State) (p : Port) : s.queueNote.port p = s.port p := by
  cases p
  · exact State.enqueue_up s .upRsp s.noteFrame
  · exact State.enqueue_dn s .upRsp s.noteFrame

theorem queueNote_beside {s : State} (h : s.noteReady = true) : s.queueNote.beside = s.beside := by
  rw [queueNote_eq h]
  rfl

/-- The NOTE is built from the registers beside the transmission. -/
theorem noteFrame_congr {s t : State} (h : t.beside = s.beside) : t.noteFrame = s.noteFrame := by
  have hnote : t.beside.noteFrame = s.beside.noteFrame := congrArg State.noteFrame h
  exact hnote

/-- The end of an event: each transmitter takes at most one frame, and a NOTE that the event ends with has joined UP-RSP
before. -/
structure State.EndsIn (s t : State) (note : List Frame) : Prop where
  sends : ∀ p, s.Sends t (withNote note) p
  cfgIn : t.queues.cfgIn = s.queues.cfgIn
  beside : t.beside = s.beside
  notices : note = [] ∧ t.notices.owed = s.notices.owed
    ∨ note = [s.noteFrame] ∧ s.notices.owed = true ∧ t.notices.owed = false ∧ s.up.linkUp = true

theorem endEvent_endsIn (s : State) (owed : Bool) : ∃ note, s.EndsIn (s.endEvent owed) note := by
  have hbeside := chooseBoth_beside s
  have hnone : withNote [] = noExtra := by
    funext q
    simp [withNote, noExtra]
  unfold State.endEvent
  split
  · rename_i hnote
    have hready : s.chooseBoth.noteReady = true := (Bool.and_elim_left hnote)
    obtain ⟨howed, hup, -⟩ := (noteReady_iff _).mp hready
    refine ⟨[s.noteFrame], fun p => ?_, ?_, ?_, .inr ⟨rfl, ?_, ?_, ?_⟩⟩
    · rw [← noteFrame_congr hbeside]
      exact (chooseBoth_sends s p).trans (queueNote_port _ p) (fun q _ => queueNote_queue hready q) (chooseBoth_sends _ p)
    · rw [chooseBoth_cfgIn, queueNote_eq hready]
      exact chooseBoth_cfgIn s
    · rw [chooseBoth_beside, queueNote_beside hready, hbeside]
    · rwa [← chooseBoth_notices]
    · rw [chooseBoth_notices]
      rfl
    · have hlink : s.chooseBoth.beside.up.linkUp = s.beside.up.linkUp := by rw [hbeside]
      exact hlink.symm.trans hup
  · have howed : s.chooseBoth.notices.owed = s.notices.owed := by rw [chooseBoth_notices]
    exact ⟨[], fun p => hnone ▸ chooseBoth_sends s p, chooseBoth_cfgIn s, hbeside, .inl ⟨rfl, howed⟩⟩

namespace State.EndsIn

variable {s t : State} {note : List Frame}

/-- A transmit queue keeps its frames and those that joined it, or loses the first of them. -/
theorem queue (h : s.EndsIn t note) {p : Port} {q : QueueId} (hq : q ∈ txQueues p) :
    t.queue q = s.queue q ++ withNote note q ∨ t.queue q = (s.queue q ++ withNote note q).tail := by
  obtain ⟨-, hqueues⟩ | ⟨-, r, f, -, -, hf, hqueues⟩ := h.sends p
  · exact .inl (hqueues q hq)
  · obtain rfl | hne := eq_or_ne q r
    · exact .inr (by rw [hf, List.tail_cons])
    · exact .inl (hqueues q hq hne)

theorem queue_of_ne (h : s.EndsIn t note) {q : QueueId} (hq : q ≠ .upRsp) :
    t.queue q = s.queue q ∨ t.queue q = (s.queue q).tail := by
  have hkept : withNote note q = [] := if_neg hq
  have htx {p : Port} (hmem : q ∈ txQueues p) : t.queue q = s.queue q ∨ t.queue q = (s.queue q).tail := by
    simpa only [hkept, List.append_nil] using h.queue hmem
  cases q
  case upRsp => contradiction
  case upOwn | upFwdSig | upBulk => exact htx (p := .up) (by decide)
  case dnOwn | dnFwd => exact htx (p := .dn) (by decide)
  case cfgIn => exact .inl h.cfgIn

theorem sending (h : s.EndsIn t note) (p : Port) :
    (t.port p).sending = (s.port p).sending
      ∨ (s.port p).linkUp = true ∧ (s.port p).partnerReady = true ∧ (s.port p).sending = none
        ∧ ∃ q f, q ∈ txQueues p ∧ (t.port p).sending = some (q, f)
            ∧ ((s.queue q).head? = some f ∨ q = .upRsp ∧ s.queue q = [] ∧ f = s.noteFrame) := by
  obtain ⟨hport, -⟩ | ⟨hc, q, f, hq, hport, hf, -⟩ := h.sends p
  · exact .inl (by rw [hport])
  obtain ⟨hup, hready, hidle⟩ := (canChoose_iff _).mp hc
  refine .inr ⟨hup, hready, hidle, q, f, hq, by rw [hport], ?_⟩
  cases hs : s.queue q with
  | cons g rest =>
    rw [hs, List.cons_append, List.cons.injEq] at hf
    exact .inl (by rw [List.head?_cons, hf.1])
  | nil =>
    rw [hs, List.nil_append] at hf
    by_cases hrsp : q = .upRsp
    · rw [withNote, if_pos hrsp] at hf
      obtain ⟨e, -⟩ | ⟨e, -⟩ := h.notices <;> rw [e] at hf
      · contradiction
      · exact .inr ⟨hrsp, rfl, (List.cons.inj hf).1.symm⟩
    · rw [withNote, if_neg hrsp] at hf
      contradiction

end State.EndsIn

/-! ## Routes of frames that are no signals (R151, R152) -/

theorem upFate_of_transfer {f : Frame} (h : f.kind = .xfer ∨ f.kind = .xferReply) (s : State) :
    s.fate .up f =
      if f.toAgent then
        if s.agentPowered f.dest then .place .dnFwd f
        else if f.kind = .xfer ∧ f.replyWanted = true then .noAgent f.dest else .miss f.dest
      else .consume := by
  obtain h | h := h <;> simp [State.fate, State.upFate, h]

theorem dnFate_of_transfer {f : Frame} (h : f.kind = .xfer ∨ f.kind = .xferReply) (s : State) :
    s.fate .dn f =
      if f.dest = 0 then if s.up.linkUp then .place .upBulk f else .discardUp else .consume := by
  obtain h | h := h <;> simp [State.fate, State.dnFate, h]

theorem fate_of_request {f : Frame} (h : f.kind = .cfgWr ∨ f.kind = .cfgRd) (s : State) :
    s.fate .up f = (if f.dest = 15 then .place .cfgIn f else .consume)
      ∧ s.fate .dn f = (if f.dest = 15 then .deny else .consume) := by
  obtain h | h := h <;> simp [State.fate, State.upFate, State.dnFate, h]

theorem fate_of_answer {f : Frame} (h : f.kind = .cfgRsp ∨ f.kind = .note) (s : State) (p : Port) :
    s.fate p f = .consume := by
  obtain h | h := h <;> cases p <;> simp [State.fate, State.upFate, State.dnFate, h]

theorem agentIndex_eq_some {a : BitVec 4} {i : Fin 14} (h : a.toNat = i.val + 1) : agentIndex a = some i := by
  have hrange : 1 ≤ a.toNat ∧ a.toNat ≤ 14 := by omega
  simp [agentIndex, h]

/-- R158: which agents are present and powered. -/
theorem agentPowered_iff {a : BitVec 4} {i : Fin 14} (h : a.toNat = i.val + 1) (s : State) :
    s.agentPowered a = true ↔
      (s.agents.get i).present = true ∧ s.dn.linkUp = true
        ∧ ∀ d, (s.agents.get i).powering = some d → (s.dom d).state = .on := by
  simp only [State.agentPowered, agentIndex_eq_some h]
  cases hp : (s.agents.get i).powering <;> simp [State.isOn, and_assoc]

end Sys2Proof.Machine

open Sys2Proof Sys2Proof.Machine in
/-- Settles O10: the kind chooses the route's table, and the destination and the agent its row. -/
theorem routingTables : Obligations.RoutingTables := by
  intro s f
  refine ⟨fun hk => ?_, fun hk => ?_, fun hk => ⟨fate_of_answer hk s .up, fate_of_answer hk s .dn⟩,
    fun i a h => agentPowered_iff h s⟩
  · rw [upFate_of_transfer hk, dnFate_of_transfer hk]
    refine ⟨fun hd => ?_, fun h0 h15 ha => ?_, fun h0 h15 ha hx hr => ?_, fun h0 h15 ha hr => ?_, fun hd hl => ?_,
      fun hd hl => ?_, fun hd => ?_⟩
    · simp [(toAgent_eq_false f).mpr hd]
    · simp [(toAgent_iff f).mpr ⟨h0, h15⟩, ha]
    · simp [(toAgent_iff f).mpr ⟨h0, h15⟩, ha, hx, hr]
    · obtain hx | hr := hr
      · simp [(toAgent_iff f).mpr ⟨h0, h15⟩, ha, hx]
      · simp [(toAgent_iff f).mpr ⟨h0, h15⟩, ha, hr]
    · simp [hd, hl]
    · simp [hd, hl]
    · rw [if_neg hd]
  · obtain ⟨hup, hdn⟩ := fate_of_request hk s
    rw [hup, hdn]
    exact ⟨fun hd => ⟨if_pos hd, if_pos hd⟩, fun hd => ⟨if_neg hd, if_neg hd⟩⟩

open Sys2Proof Sys2Proof.Machine in
/-- Settles O4: a transmitter that may choose takes the head of its first non-empty queue, and the commands of the
partner and of the transmission's end leave nothing to do but the end of their event. -/
theorem transmitterServesQueuesInOrder : Obligations.TransmitterServesQueuesInOrder := by
  refine ⟨fun s p f rest => ⟨fun h => chooseFrame_idle (.inl ?_), fun h => chooseFrame_idle (.inr h),
    fun hl hr hs => ⟨fun h1 => ?_, fun h1 h2 => ?_, fun h1 h2 h3 => ?_, fun h1 h2 h3 h4 => ?_⟩,
    fun hl hr hs => ⟨fun h1 => ?_, fun h1 h2 => ?_⟩⟩, fun p s h => ?_⟩
  · rw [Bool.eq_false_iff, Ne, canChoose_iff]
    rintro ⟨hl, hr, hs⟩
    simp [hl, hr, hs] at h
  · exact chooseFrame_of_first (p := .up) (q := .upOwn) ⟨hl, hr, hs⟩
      (by simp [txQueues, State.queue, Queues.get, h1]) h1
  · exact chooseFrame_of_first (p := .up) (q := .upFwdSig) ⟨hl, hr, hs⟩
      (by simp [txQueues, State.queue, Queues.get, h1, h2]) h2
  · exact chooseFrame_of_first (p := .up) (q := .upRsp) ⟨hl, hr, hs⟩
      (by simp [txQueues, State.queue, Queues.get, h1, h2, h3]) h3
  · exact chooseFrame_of_first (p := .up) (q := .upBulk) ⟨hl, hr, hs⟩
      (by simp [txQueues, State.queue, Queues.get, h1, h2, h3, h4]) h4
  · exact chooseFrame_of_first (p := .dn) (q := .dnOwn) ⟨hl, hr, hs⟩
      (by simp [txQueues, State.queue, Queues.get, h1]) h1
  · exact chooseFrame_of_first (p := .dn) (q := .dnFwd) ⟨hl, hr, hs⟩
      (by simp [txQueues, State.queue, Queues.get, h1, h2]) h2
  · have hheads (x : PortState) (hx : x.head = none) : (s.setPort p x).HeadsEmpty := .setPort hx fun r _ => h.head r
    exact ⟨event_comesTo (comesTo_nil (hheads _ (h.head p))), event_comesTo (comesTo_nil (hheads _ (h.head p))),
      event_comesTo (comesTo_nil (hheads _ (h.head p)))⟩

open Sys2Proof Sys2Proof.Machine in
/-- Settles O3: a transmitter that has taken a frame takes no second one after the NOTE. -/
theorem endOfEventTouchesOnlyTransmission : Obligations.EndOfEventTouchesOnlyTransmission := by
  intro s owed
  obtain ⟨note, h⟩ := endEvent_endsIn s owed
  refine ⟨h.beside, h.cfgIn, fun howed => ?_, fun q hq => h.queue_of_ne hq, ⟨note, h.notices, ?_⟩, h.sending⟩
  · obtain ⟨-, hkept⟩ | ⟨-, hset, -⟩ := h.notices
    · exact hkept ▸ howed
    · exact hset
  · exact h.queue (p := .up) (q := .upRsp) (by decide)
end

section
/-! # Frames at the receive heads

A frame that is judged with its place free is taken (R150), in the event of its arrival, by FRAME_TAKEN, or at the end of
another event (R157). -/

-- One declaration at a time: the threads that would wait for the kernel go past the limit on memory.
set_option Elab.async false

namespace Sys2Proof.Machine

open Sys2Proof

/-! ## A judged head -/

theorem judgeHead_none {s : State} {p : Port} (h : (s.port p).head = none) : s.judgeHead p = (s, []) := by
  simp [State.judgeHead, h]

theorem judgeHead_stays {s : State} {p : Port} {f : Frame} (h : (s.port p).head = some f)
    (hfits : s.fits (s.fate p f) = false) : s.judgeHead p = (s, []) := by
  simp [State.judgeHead, h, hfits]

/-- R138: a frame that is no signal, or a signal that matches no entry, is taken to its fate alone. -/
theorem judgeHead_plain {s : State} {p : Port} {f : Frame} (h : (s.port p).head = some f)
    (hplain : f.kind ≠ .sig ∨ s.lookup p f.source f.signal = none) (hfits : s.fits (s.fate p f) = true) :
    s.judgeHead p = (s.setPort p { s.port p with head := none }, [.carry (s.fate p f) f]) := by
  have hjudge : s.judgeHead p = s.takeHead p f (s.fate p f) := by simp [State.judgeHead, h, hfits]
  rw [hjudge]
  by_cases hk : f.kind = .sig
  · have hlookup := hplain.resolve_left (not_not.mpr hk)
    have hfind : (s.emptyHead p).findSignal p f.source f.signal = none := by
      cases p <;> exact lookup_eq_none.mp hlookup
    rw [State.takeHead, if_pos hk, writeLevel_unmatched hfind, sigReports_unmatched hlookup]
    rfl
  · exact takeHead_of_ne_sig hk

/-- What the taking of such a frame comes to, the other head being empty. -/
theorem comesTo_judge {s : State} {p : Port} {f : Frame} (h : (s.port p).head = some f)
    (hother : ∀ r, r ≠ p → (s.port r).head = none)
    (hplain : f.kind ≠ .sig ∨ s.lookup p f.source f.signal = none) (hfits : s.fits (s.fate p f) = true) :
    comesTo (s, [.judge p]) ((s.setPort p { s.port p with head := none }).carryFate (s.fate p f) f) :=
  ⟨2, by decide, quiesce_step (w := .judge p) (judgeHead_plain h hplain hfits) (quiesce_one rfl),
    carryFate_headsEmpty (.setPort rfl hother) _ f⟩

/-! ## A frame held to the end of an event (R157) -/

/-- The place that this fate needs was free when the event was taken, or no other producer waits for it. -/
theorem contended_eq_false {v : State} {b : Before} {fate : Fate}
    (hrsp : fate.queue = some .upRsp → b.rspFull = false ∨ b.owed = false ∧ v.queues.cfgIn = [])
    (hown : fate.queue = some .dnOwn → b.ownFull = false ∨ v.ctx.wait.wantsDnOwn = false) :
    v.contended b fate = false := by
  unfold State.contended
  split
  · obtain h | ⟨ho, hq⟩ := hrsp ‹_›
    · simp [h]
    · simp [ho, hq]
  · obtain h | h := hown ‹_› <;> simp [h]
  · rfl

theorem wantsDnOwn_eq_false {w : Wait} (h : ∀ n l, w ≠ .space .dn n l ∧ w ≠ .rollbackSpace .dn n l) :
    w.wantsDnOwn = false := by
  unfold Wait.wantsDnOwn
  split
  · exact absurd rfl (h _ _).1
  · exact absurd rfl (h _ _).2
  · rfl

/-- A fate that finds a place left from before the event, or no other producer that waits for it. -/
theorem contended_of_room {s v : State} {owed : Bool} {fate : Fate} (hwait : v.ctx.wait = s.ctx.wait)
    (hcfg : v.queues.cfgIn = s.queues.cfgIn)
    (hrsp : fate.queue = some .upRsp → s.queues.upRsp.length < 4 ∨ owed = false ∧ s.queues.cfgIn = [])
    (hown : fate.queue = some .dnOwn →
      s.queues.dnOwn.length < 8 ∨ ∀ n l, s.ctx.wait ≠ .space .dn n l ∧ s.ctx.wait ≠ .rollbackSpace .dn n l) :
    v.contended { s.before with owed := owed } fate = false := by
  refine contended_eq_false (fun hq => ?_) fun hq => ?_
  · obtain hlen | ⟨ho, hc⟩ := hrsp hq
    · exact .inl (by simpa [State.before] using (hasPlace_iff s .upRsp).mpr hlen)
    · exact .inr ⟨ho, hcfg.trans hc⟩
  · obtain hlen | hw := hown hq
    · exact .inl (by simpa [State.before] using (hasPlace_iff s .dnOwn).mpr hlen)
    · exact .inr (wantsDnOwn_eq_false (by rwa [hwait]))

theorem chooseBoth_head (s : State) (p : Port) : (s.chooseBoth.port p).head = (s.port p).head := by
  rw [State.chooseBoth, chooseFrame_head, chooseFrame_head]

/-- The transmitters free places alone. -/
theorem chooseBoth_length_le (s : State) (q : QueueId) : (s.chooseBoth.queue q).length ≤ (s.queue q).length := by
  have htx {p : Port} (hq : q ∈ txQueues p) : (s.chooseBoth.queue q).length ≤ (s.queue q).length := by
    have hsends := chooseBoth_sends s p
    simp only [State.Sends, noExtra, List.append_nil] at hsends
    obtain ⟨-, hqueues⟩ | ⟨-, r, f, -, -, hf, hqueues⟩ := hsends
    · exact (congrArg List.length (hqueues q hq)).le
    · obtain rfl | hne := eq_or_ne q r
      · simp [hf]
      · exact (congrArg List.length (hqueues q hq hne)).le
  cases q
  case upOwn | upFwdSig | upRsp | upBulk => exact htx (p := .up) (by decide)
  case dnOwn | dnFwd => exact htx (p := .dn) (by decide)
  case cfgIn => exact (congrArg List.length (chooseBoth_cfgIn s)).le

/-- A register beside the transmission is as it was before the transmitters' choices. -/
theorem chooseBoth_keeps {α : Type} (g : State → α) (hg : ∀ t : State, g t.beside = g t) (s : State) :
    g s.chooseBoth = g s := by
  rw [← hg, chooseBoth_beside, hg]

theorem heldReady_of_head {s : State} {b : Before} {p : Port} {f : Frame} (h : (s.port p).head = some f) :
    s.heldReady b p = (s.fits (s.fate p f) && !s.contended b (s.fate p f)) := by
  simp [State.heldReady, h]

theorem heldReady_of_none {s : State} {p : Port} (h : (s.port p).head = none) (b : Before) : s.heldReady b p = false := by
  simp [State.heldReady, h]

/-- R157: at the end of an event a held frame is taken whose place is free after the transmitters' choices, the other
head being empty; and the event ends anew. -/
theorem finish_held {a : Act} {t u : State} {b : Before} {p : Port} {f : Frame} {m : Nat} (hm : m ≤ 5)
    (ha : quiesce m a.2 a.1 = some t) (h : (t.port p).head = some f) (hother : ∀ r, r ≠ p → (t.port r).head = none)
    (hfits : t.chooseBoth.fits (t.chooseBoth.fate p f) = true)
    (hfree : t.chooseBoth.contended b (t.chooseBoth.fate p f) = false)
    (hu : comesTo (t.chooseBoth, [.judge p]) u) : finish b a = .next (u.endEvent b.owed) := by
  have hready : t.chooseBoth.heldReady b p = true := by
    rw [heldReady_of_head ((chooseBoth_head t p).trans h), hfits, hfree]
    rfl
  have hothers (r : Port) (hr : r ≠ p) : t.chooseBoth.heldReady b r = false :=
    heldReady_of_none ((chooseBoth_head t r).trans (hother r hr)) b
  have hsettle : micro (.settle b) t = (t.chooseBoth, [.judge p] ++ [.settle b]) := by
    change t.settle b = _
    unfold State.settle
    cases p with
    | up => simp [hready]
    | dn => simp [hready, hothers .up (by decide)]
  obtain ⟨n, hn, hq, hheads⟩ := hu
  have hrest := quiesce_step (w := .settle b) hsettle (quiesce_append hq (quiesce_settle hheads b))
  exact finish_of_quiesce (quiesce_append ha hrest) (by omega)

/-! ## Reception (R149, R150) -/

theorem receive_down {s : State} {p : Port} (h : (s.port p).linkUp = false) (bytes : List Byte) :
    s.receive p bytes = (s, []) := by
  simp [State.receive, h]

theorem receive_malformed {s : State} {p : Port} {bytes : List Byte} (h : (s.port p).linkUp = true)
    (hrec : receivedFrame p bytes = none) : s.receive p bytes = (s.linkError p, []) := by
  simp [State.receive, h, hrec]

theorem receive_overrun {s : State} {p : Port} (h : (s.port p).linkUp = true) (hhead : (s.port p).head ≠ none)
    (bytes : List Byte) : s.receive p bytes = (s.linkError p, []) := by
  have hheld : (s.port p).head.isSome = true := Option.isSome_iff_ne_none.mpr hhead
  cases hrec : receivedFrame p bytes <;> simp [State.receive, h, hrec, hheld]

theorem receive_good {s : State} {p : Port} {bytes : List Byte} {f : Frame} (h : (s.port p).linkUp = true)
    (hhead : (s.port p).head = none) (hrec : receivedFrame p bytes = some f) :
    s.receive p bytes = (s.setPort p { s.port p with head := some f }, [.judge p]) := by
  simp [State.receive, h, hrec, hhead]

theorem exec_frameReceived {s : State} {p : Port} {bytes : List Byte} {a : Act} (h : s.receive p bytes = a) :
    exec (.frameReceived p bytes) s = s.event a :=
  congrArg s.event h

/-- A head's frame neither takes a place nor bears on its own route. -/
theorem fits_setHead (s : State) (p : Port) (h : Option Frame) (fate : Fate) :
    (s.setPort p { s.port p with head := h }).fits fate = s.fits fate := by
  simp only [State.fits, State.hasPlace, State.queue_setPort]

theorem setHead_none {s : State} {p : Port} (h : (s.port p).head = none) (x : Option Frame) :
    (s.setPort p { s.port p with head := x }).setPort p
      { (s.setPort p { s.port p with head := x }).port p with head := none } = s := by
  rw [State.port_setPort_self, State.setPort_setPort]
  dsimp only
  rw [← h]
  exact State.setPort_port s p

/-! ## Fates carried out (R142, R151, R152, R154, R159) -/

theorem toNat_agentNumber (i : Fin 14) : (BitVec.ofNat 4 (i.val + 1)).toNat = i.val + 1 := by
  rw [BitVec.toNat_ofNat]
  omega

/-- R159: the state after a miss of the agent of record `i` is counted. -/
def State.missed (s : State) (i : Fin 14) : State :=
  State.notify
    { s with agents := s.agents.set i { s.agents.get i with misses := min ((s.agents.get i).misses + 1) 255 } }
    .agentAbsent

theorem countMiss_of_index {a : BitVec 4} {i : Fin 14} (h : a.toNat = i.val + 1) (s : State) :
    s.countMiss a = s.missed i := by
  simp only [State.countMiss, agentIndex_eq_some h]
  rfl

theorem enqueue_of_place {s : State} {q : QueueId} (h : s.hasPlace q = true) (f : Frame) :
    s.enqueue q f = s.setQueue q (s.queue q ++ [f]) := by
  simp [State.enqueue, h]

/-- R159: a missed frame that wants a reply is answered with NO_AGENT. -/
theorem carryFate_noAgent {s : State} {a : BitVec 4} {i : Fin 14} (h : a.toNat = i.val + 1)
    (hplace : s.hasPlace .upRsp = true) (f : Frame) :
    s.carryFate (.noAgent a) f
      = (s.missed i).setQueue .upRsp ((s.missed i).queue .upRsp ++ [noAgentReply f a]) := by
  simp only [State.carryFate, countMiss_of_index h]
  exact enqueue_of_place (s := s.missed i) hplace _

end Sys2Proof.Machine

open Sys2Proof Sys2Proof.Machine in
/-- Settles O9: the link, the check and the head decide whether a frame is dropped; a frame that is not dropped is judged
in its event. -/
theorem frameReceivedIsDroppedOrRouted : Obligations.FrameReceivedIsDroppedOrRouted := by
  refine ⟨fun p bytes s => ⟨fun hl h => ?down, fun hl hrec h => ?malformed, fun hl hhead hset => ?overrun,
    fun f hl h hrec hk hfits => ?taken, fun f hl hhead hother hrec hfits hset => ?held⟩, fun q i f g s => ?fates⟩
  case down =>
    rw [exec_frameReceived (receive_down hl bytes)]
    exact event_comesTo (comesTo_nil h)
  case malformed =>
    rw [exec_frameReceived (receive_malformed hl hrec)]
    exact event_comesTo (comesTo_nil (State.HeadsEmpty.setPort (h.head p) fun r _ => h.head r))
  case overrun =>
    rw [exec_frameReceived (receive_overrun hl hhead bytes)]
    exact finish_settled (quiesce_nil 0 _) hset s.before (by decide)
  case taken =>
    have hhead := h.head p
    have hport := State.port_setPort_self s p { s.port p with head := some f }
    have hjudge := judgeHead_plain (s := s.setPort p { s.port p with head := some f }) (f := f) (by rw [hport]) (.inl hk)
      (by rw [fits_setHead, fate_setHead, hfits])
    rw [setHead_none hhead, fate_setHead] at hjudge
    rw [exec_frameReceived (receive_good hl hhead hrec)]
    exact finish_judge hjudge (comesTo_carry h _ f) s.before
  case held =>
    have hport := State.port_setPort_self s p { s.port p with head := some f }
    have hjudge := judgeHead_stays (s := s.setPort p { s.port p with head := some f }) (f := f) (by rw [hport])
      (by rw [fits_setHead, fate_setHead, hfits])
    rw [exec_frameReceived (receive_good hl hhead hrec)]
    exact finish_settled (quiesce_one (w := .judge p) hjudge) hset s.before (by decide)
  case fates =>
    have hindex := toNat_agentNumber i
    exact ⟨rfl, countMiss_of_index hindex s, fun hplace => carryFate_noAgent hindex hplace f, rfl,
      fun hplace => enqueue_of_place hplace g, fun hplace => enqueue_of_place hplace _⟩

open Sys2Proof Sys2Proof.Machine in
/-- Settles O13: FRAME_TAKEN judges the head, and the end of another event judges it after the transmitters' choices. -/
theorem frameTakenTakesHeldFrame : Obligations.FrameTakenTakesHeldFrame := by
  intro p s
  refine ⟨fun h => ?empty, fun f hf hother hplain hfits => ?taken, fun f hf hfits hset => ?stays,
    fun f r hf hother => ?atEnd⟩
  case empty => exact event_of_work (judgeHead_none (h.head p)) (comesTo_nil h)
  case taken => exact event_comesTo (comesTo_judge hf hother hplain hfits)
  case stays => exact finish_settled (quiesce_one (w := .judge p) (judgeHead_stays hf hfits)) hset s.before (by decide)
  case atEnd =>
    intro v hplain hfits hrsp hown
    have hheads (q : Port) : ((s.setPort r { s.port r with sending := none }).port q).head = (s.port q).head := by
      obtain rfl | hne := eq_or_ne q r
      · rw [State.port_setPort_self]
      · rw [State.port_setPort_of_ne _ _ hne]
    have hcfg : v.queues.cfgIn = s.queues.cfgIn := by
      rw [chooseBoth_cfgIn]
      cases r <;> rfl
    have hwait : v.ctx.wait = s.ctx.wait := by
      rw [chooseBoth_keeps (fun t => t.ctx.wait) (fun _ => rfl)]
      cases r <;> rfl
    have hfree : v.contended s.before (v.fate p f) = false := contended_of_room hwait hcfg hrsp hown
    have hhead : (v.port p).head = some f := (chooseBoth_head _ p).trans ((hheads p).trans hf)
    have hempty (q : Port) (hq : q ≠ p) : (v.port q).head = none :=
      (chooseBoth_head _ q).trans ((hheads q).trans (hother q hq))
    exact finish_held (a := (s.setPort r { s.port r with sending := none }, [])) (Nat.zero_le 5) (quiesce_nil 0 _)
      ((hheads p).trans hf) (fun q hq => (hheads q).trans (hother q hq)) hfits hfree
      (comesTo_judge hhead hempty hplain hfits)
end

section
/-! # Link events

LINK_UP and LINK_DOWN (R161, R162), what a DOWN port ends of the sequencer's waits, and the frame held at the other port
that is judged again with the link changed. -/

-- One declaration at a time: the threads that would wait for the kernel go past the limit on memory.
set_option Elab.async false

namespace Sys2Proof.Machine

open Sys2Proof

/-! ## A port that has gone DOWN (R161) -/

/-- R161: the state after the flush of a port that goes DOWN. -/
def State.wentDown (s : State) (p : Port) : State :=
  ((s.flushQueues p).setPort p { s.port p with linkUp := false, head := none, sending := none }).discard p
    (s.flushCount p)

theorem linkGoesDown_up {s : State} {p : Port} (h : (s.port p).linkUp = true) :
    s.linkGoesDown p = (s.wentDown p, [.portDown p]) := by
  simp only [State.linkGoesDown, h, Bool.not_true, Bool.false_eq_true, if_false]
  rfl

theorem wentDown_port_self (s : State) (p : Port) :
    (s.wentDown p).port p =
      { s.port p with
        linkUp := false, head := none, sending := none,
        discards := min ((s.port p).discards + s.flushCount p) 65535 } := by
  simp only [State.wentDown, State.discard, State.port_notify, State.port_setPort_self]
  rfl

theorem wentDown_port_of_ne (s : State) {p r : Port} (h : r ≠ p) : (s.wentDown p).port r = s.port r := by
  simp only [State.wentDown, State.discard, State.port_notify, State.port_setPort_of_ne _ _ h, flushQueues_port]

theorem flushQueues_queue_of_not_mem (s : State) {p : Port} {q : QueueId} (hq : q ∉ txQueues p) :
    (s.flushQueues p).queue q = s.queue q :=
  List.foldlRecOn (motive := fun t : State => t.queue q = s.queue q) (txQueues p) _ rfl fun _ ht _ hr =>
    (State.queue_setQueue_of_ne _ _ (ne_of_mem_of_not_mem hr hq).symm).trans ht

/-- The flush changes the queues alone. -/
theorem flushQueues_shape (s : State) (p : Port) : s.flushQueues p = { s with queues := (s.flushQueues p).queues } :=
  List.foldlRecOn (motive := fun t : State => t = { s with queues := t.queues }) (txQueues p) _ rfl fun _ ht _ _ => by
    rw [ht]
    rfl

theorem wentDown_queue (s : State) (p : Port) (q : QueueId) : (s.wentDown p).queue q = (s.flushQueues p).queue q := by
  simp only [State.wentDown, State.discard, State.queue_notify, State.queue_setPort]

/-- A port that goes DOWN changes the ports, the queues and the notices alone. -/
theorem wentDown_shape (s : State) (p : Port) :
    s.wentDown p = { s with
      up := (s.wentDown p).up, dn := (s.wentDown p).dn, queues := (s.wentDown p).queues,
      notices := s.notices.raise .txDiscard } := by
  have hflush := flushQueues_shape s p
  unfold State.wentDown
  generalize s.flushQueues p = t at hflush ⊢
  rw [hflush]
  cases p <;> rfl

theorem wentDown_ctx (s : State) (p : Port) : (s.wentDown p).ctx = s.ctx := by
  rw [wentDown_shape]

theorem wentDown_linkUp (s : State) (p : Port) : ((s.wentDown p).port p).linkUp = false := by
  rw [wentDown_port_self]

theorem wentDown_headsEmpty {s : State} {p : Port} (h : ∀ r, r ≠ p → (s.port r).head = none) :
    (s.wentDown p).HeadsEmpty := by
  refine .of_head fun r => ?_
  obtain rfl | hne := eq_or_ne r p
  · rw [wentDown_port_self]
  · rw [wentDown_port_of_ne s hne, h r hne]

/-- R161: DN gone DOWN, its head being empty before. -/
theorem wentDown_dn {s : State} (h : s.dn.head = none) :
    s.wentDown .dn = State.notify { s with
      dn := { s.dn with
        linkUp := false, sending := none, discards := min (s.dn.discards + s.flushCount .dn) 65535 },
      queues := { s.queues with dnOwn := [], dnFwd := [] } } .txDiscard := by
  have hflush : s.flushQueues .dn = { s with queues := { s.queues with dnOwn := [], dnFwd := [] } } := rfl
  rw [State.wentDown, hflush]
  exact congrArg (fun x : Option Frame => State.notify { s with
    dn := { s.dn with
      linkUp := false, head := x, sending := none, discards := min (s.dn.discards + s.flushCount .dn) 65535 },
    queues := { s.queues with dnOwn := [], dnFwd := [] } } .txDiscard) h.symm

/-! ## What it ends of the sequencer's waits (R32, R33, R52) -/

theorem portWentDown_unwaited {s : State} {p : Port}
    (h : ∀ sig l, s.ctx.wait ≠ .space p sig l ∧ s.ctx.wait ≠ .rollbackSpace p sig l) (hd : s.ctx.wait ≠ .drain p) :
    s.portWentDown p = (s, []) := by
  unfold State.portWentDown
  split
  case h_1 q sig l hw =>
    rw [if_neg]
    rintro rfl
    exact (h sig l).1 hw
  case h_2 q hw =>
    rw [if_neg]
    rintro rfl
    exact hd hw
  case h_3 q sig l hw =>
    rw [if_neg]
    rintro rfl
    exact (h sig l).2 hw
  case h_4 => rfl

theorem portWentDown_space {s : State} {p : Port} {sig : Byte} {l : Level} (h : s.ctx.wait = .space p sig l) :
    s.portWentDown p = (s.emitStep p sig l).proceeding := by
  simp [State.portWentDown, h, completeStep_eq]

theorem portWentDown_drain {s : State} {p : Port} (h : s.ctx.wait = .drain p) : s.portWentDown p = s.proceeding := by
  simp [State.portWentDown, h, completeStep_eq]

/-- R52: a signal record takes the down-port case. -/
theorem portWentDown_rollbackSpace {s : State} {p : Port} {sig : Byte} {l : Level}
    (h : s.ctx.wait = .rollbackSpace p sig l) (hdown : (s.port p).linkUp = false) :
    s.portWentDown p = ((s.discard p 1).setEmitted p sig l).recordOver := by
  simp [State.portWentDown, h, recordDone_eq, State.recordEmit, sendOwn_down hdown]

theorem exec_linkDown_up {s : State} {p : Port} (h : (s.port p).linkUp = true) :
    exec (.linkDown p) s = s.event (s.wentDown p, [.portDown p]) := by
  have hexec : exec (.linkDown p) s = s.event (s.linkGoesDown p) := if_pos h
  rw [hexec, linkGoesDown_up h]

/-- A LINK_DOWN ends as what the waits on the port's queues go on to. -/
theorem exec_linkDown {s u : State} {p : Port} {a : Act} (h : (s.port p).linkUp = true)
    (ha : (s.wentDown p).portWentDown p = a) (hu : comesTo a u) : exec (.linkDown p) s = .next (s.ends u) := by
  rw [exec_linkDown_up h]
  exact event_of_work ha hu

/-- R49: the last record done, with nothing to apply, the rollback completes in RUN. -/
theorem comesTo_recordOver {s : State} (h : s.HeadsEmpty) (hp : s.ctx.portion = .rollback) (hu : s.undo = [])
    (hnone : ∀ k : ItemId, s.applyPending.get k = false) :
    comesTo s.recordOver s.recordOver.1.completeRollback.1 := by
  have hrollback : micro .rollback s.recordOver.1 = (s.recordOver.1.completeRollback.1, []) :=
    (nextRecord_empty (s := s.recordOver.1) hu).trans (completePlan_rollback (s := s.recordOver.1) hp hnone)
  exact ⟨1, by decide, quiesce_one hrollback, headsEmpty_of_ports h (State.enterPlatform_up ..) (State.enterPlatform_dn ..)⟩

/-! ## A link that comes UP (R162) -/

theorem exec_linkUp_down {s : State} {p : Port} (h : (s.port p).linkUp = false) :
    exec (.linkUp p) s
      = finish { s.before with owed := p == .dn && s.notices.owed } (s.setPort p { s.port p with linkUp := true }, []) := by
  change (if (s.port p).linkUp then Host.Outcome.next s else _) = _
  rw [h]
  rfl

/-- R191: a LINK_UP of UP offers the NOTE as one that the event itself owes. -/
theorem owed_of_linkUp (p : Port) (owed : Bool) : (p == .dn && owed) = (match p with | .up => false | .dn => owed) := by
  cases p <;> rfl

theorem next_endEvent {u : State} {a b : Bool} (h : a = b) :
    (.next (u.endEvent a) : Host.Outcome State Fault Refusal) = .next (u.endEvent b) := by rw [h]

/-! ## Frames for an unpowered agent (R159) -/

theorem toAgent_of_index {f : Frame} {i : Fin 14} (h : f.dest.toNat = i.val + 1) : f.toAgent = true := by
  have hrange : 1 ≤ f.dest.toNat ∧ f.dest.toNat ≤ 14 := by omega
  simpa [Frame.toAgent] using hrange

theorem upFate_noAgent {s : State} {f : Frame} (ht : f.toAgent = true) (hp : s.agentPowered f.dest = false)
    (hk : f.kind = .xfer) (hr : f.replyWanted = true) : s.fate .up f = .noAgent f.dest := by
  simp [upFate_of_transfer (.inl hk), ht, hp, hk, hr]

theorem upFate_miss {s : State} {f : Frame} (ht : f.toAgent = true) (hp : s.agentPowered f.dest = false)
    (hk : f.kind = .xfer ∧ f.replyWanted = false ∨ f.kind = .xferReply
      ∨ f.kind = .sig ∧ s.lookup .up f.source f.signal = none) : s.fate .up f = .miss f.dest := by
  obtain ⟨hk, hr⟩ | hk | ⟨hk, hl⟩ := hk
  · simp [upFate_of_transfer (.inl hk), ht, hp, hk, hr]
  · simp [upFate_of_transfer (.inr hk), ht, hp, hk]
  · have hpass : s.sigAction .up f ≠ .drop := by
      rw [sigAction_unmatched hl]
      decide
    simp [fate_of_sig hk, sigFate_up hpass, ht, hp]

/-- R158: behind a DOWN port no agent is powered. -/
theorem agentPowered_down {s : State} (h : s.dn.linkUp = false) (a : BitVec 4) : s.agentPowered a = false := by
  rw [Bool.eq_false_iff]
  exact fun ha => absurd ((dn_up_of_agentPowered ha).symm.trans h) (by decide)

end Sys2Proof.Machine

open Sys2Proof Sys2Proof.Machine in
/-- Settles O7: the port is UP from the beginning of the event's end, which judges the frame held at the other port. -/
theorem linkUpOpensPort : Obligations.LinkUpOpensPort := by
  refine fun p s => ⟨fun hup => if_pos hup, fun hdown h => ?_, fun r f hne hdown hempty hf => ?_⟩
  · rw [exec_linkUp_down hdown]
    exact (finish_nil (.setPort (x := { s.port p with linkUp := true }) (h.head p) fun q _ => h.head q) _).trans
      (next_endEvent (owed_of_linkUp p _))
  intro opened v
  rw [exec_linkUp_down hdown]
  have hheads (q : Port) : (opened.port q).head = (s.port q).head := by
    obtain rfl | hq := eq_or_ne q p
    · rw [State.port_setPort_self]
    · rw [State.port_setPort_of_ne _ _ hq]
  have hf' : (opened.port r).head = some f := (hheads r).trans hf
  have hother : ∀ q, q ≠ r → (opened.port q).head = none := fun q hq => by
    have hqp : q = p := by
      cases p <;> cases q <;> cases r <;> simp_all
    rw [hheads, hqp, hempty]
  have hcfg : v.queues.cfgIn = s.queues.cfgIn := by
    rw [chooseBoth_cfgIn]
    cases p <;> rfl
  have hwait : v.ctx.wait = s.ctx.wait := by
    rw [chooseBoth_keeps (fun t => t.ctx.wait) (fun _ => rfl)]
    cases p <;> rfl
  refine ⟨fun hfits hrsp hown => ?_, fun hfits hset => finish_settled (quiesce_nil 0 _) hset _ (by decide)⟩
  have hfree : v.contended { s.before with owed := p == .dn && s.notices.owed } (v.fate r f) = false := by
    have hroom : (v.fate r f).queue = some .upRsp →
        s.queues.upRsp.length < 4 ∨ (p == .dn && s.notices.owed) = false ∧ s.queues.cfgIn = [] := by
      intro hq
      obtain hlen | ⟨hp | ho, hc⟩ := hrsp hq
      · exact .inl hlen
      · exact .inr ⟨by simp [hp], hc⟩
      · exact .inr ⟨by simp [ho], hc⟩
    exact contended_of_room hwait hcfg hroom hown
  have htaken (u : State) (hu : comesTo (v, [.judge r]) u) :=
    (finish_held (a := (opened, [])) (Nat.zero_le 5) (quiesce_nil 0 _) hf' hother hfits hfree hu).trans
      (next_endEvent (owed_of_linkUp p _))
  refine ⟨fun hplain => htaken _ ?_, htaken⟩
  exact comesTo_judge ((chooseBoth_head _ r).trans hf') (fun q hq => (chooseBoth_head _ q).trans (hother q hq)) hplain hfits

open Sys2Proof Sys2Proof.Machine in
/-- Settles O8: the flush leaves the port DOWN and empty, and the sequencer's wait on it, if there is one, goes on from
there. -/
theorem linkDownFlushesPort : Obligations.LinkDownFlushesPort := by
  intro p s
  have hwait : (s.wentDown p).ctx.wait = s.ctx.wait := by rw [wentDown_ctx]
  refine ⟨fun hdown => if_neg (by simp [hdown]), fun hup hother => ?flush, fun sig l t hup h hw hd => ?emit,
    fun sig l hup h hw hpl hpo hu hnone => ?record⟩
  case flush =>
    have hport := wentDown_port_self s p
    refine ⟨s.wentDown p, by rw [hport], by rw [hport], by rw [hport], by rw [hport], by rw [hport], by rw [hport]; rfl,
      fun q hq => ?_, fun q hq => ?_, fun r hr => wentDown_port_of_ne s hr, by rw [wentDown_shape], ?_,
      fun hnone hdrain => ?_, fun sig l u hw hu => ?_, fun u hw hu => ?_, fun sig l u hw hu => ?_⟩
    · rw [wentDown_queue, flushQueues_queue s hq]
    · rw [wentDown_queue, flushQueues_queue_of_not_mem s hq]
    · rw [wentDown_shape]
    · exact exec_linkDown hup (portWentDown_unwaited (by rwa [hwait]) (by rwa [hwait]))
        (comesTo_nil (wentDown_headsEmpty hother))
    · exact exec_linkDown hup (portWentDown_space (hwait.trans hw)) hu
    · exact exec_linkDown hup (portWentDown_drain (hwait.trans hw)) hu
    · exact exec_linkDown hup (portWentDown_rollbackSpace (hwait.trans hw) (wentDown_linkUp s p)) hu
  case emit =>
    have hctx := emitStep_ctx (s.wentDown p) p sig l
    have hempty : (s.wentDown p).HeadsEmpty := wentDown_headsEmpty fun r _ => h.head r
    have hdelays : ((s.wentDown p).emitStep p sig l).delaysAt (s.ctx.index + 1) t := by
      refine (delaysAt_congr (s := s) ?_ ?_).mpr hd
      · rw [hctx, wentDown_ctx]
      · rw [emitStep_active, wentDown_shape]
    have hcomes := proceeding_delays (by rw [hctx, wentDown_ctx]) hdelays (emitStep_headsEmpty hempty p sig l)
    refine ⟨_, exec_linkDown hup (portWentDown_space (hwait.trans hw)) hcomes, rfl, rfl, ?_⟩
    have hafter : ∃ pl n c, (((s.wentDown p).emitStep p sig l).setWait .idle).leavePark.delaying (s.ctx.index + 1) t
        = { (s.wentDown p).emitStep p sig l with platform := pl, notices := n, ctx := c } := by
      rw [leavePark_shape]
      exact ⟨_, _, _, rfl⟩
    have hsent : ((s.wentDown p).emitStep p sig l)
        = ((((s.wentDown p).emitRecorded p sig l).discard p 1).setEmitted p sig l) := by
      rw [emitStep_eq, sendOwn_down (by rw [emitRecorded_port, wentDown_linkUp])]
    obtain ⟨pl, n, c, hafter⟩ := hafter
    rw [hafter]
    refine ⟨State.emitted_setEmitted_self _ p sig l, ?_, fun q hq => ?_⟩
    · change ((State.port ((s.wentDown p).emitStep p sig l) p).discards) = _
      rw [hsent, port_setEmitted, State.discard, State.port_notify, State.port_setPort_self, emitRecorded_port,
        wentDown_port_self]
      rfl
    · change State.queue ((s.wentDown p).emitStep p sig l) q = []
      rw [hsent, queue_setEmitted, State.discard, State.queue_notify, State.queue_setPort, emitRecorded_queue,
        wentDown_queue, flushQueues_queue s hq]
  case record =>
    have hempty : (s.wentDown p).HeadsEmpty := wentDown_headsEmpty fun r _ => h.head r
    have hheads : (((s.wentDown p).discard p 1).setEmitted p sig l).HeadsEmpty := .of_head fun r => by
      rw [port_setEmitted, ← sendOwn_down (wentDown_linkUp s p) sig l, sendOwn_head, hempty.head r]
    have hcomes := comesTo_recordOver hheads (by rw [State.setEmitted_ctx, State.discard_ctx, wentDown_ctx, hpo])
      (by rw [State.setEmitted_undo, State.discard_undo, wentDown_shape, hu])
      (by rwa [State.setEmitted_applyPending, State.discard_applyPending, wentDown_shape])
    have hplatform : (((s.wentDown p).discard p 1).setEmitted p sig l).platform ≠ .run := by
      rw [State.setEmitted_platform, State.discard_platform, wentDown_shape, hpl]
      decide
    obtain ⟨x, hrun⟩ := completeRollback_eq (s := (((s.wentDown p).discard p 1).setEmitted p sig l).recordOver.1) hplatform
    refine ⟨_, exec_linkDown hup (portWentDown_rollbackSpace (hwait.trans hw) (wentDown_linkUp s p)) hcomes, ?_⟩
    rw [hrun]
    exact ⟨rfl, rfl, State.emitted_setEmitted_self _ p sig l⟩

open Sys2Proof Sys2Proof.Machine in
/-- Settles O15: the frame's fate says what is counted and answered; behind a DN port that has gone DOWN no agent is
powered, and the frame held at UP is judged at the event's end. -/
theorem transferToUnpoweredAgent : Obligations.TransferToUnpoweredAgent := by
  intro f i s hf hd hi taken answered
  have ht := toAgent_of_index hi
  have hother (t : State) (h : t.dn.head = none) : ∀ r, r ≠ .up → (t.port r).head = none := fun r hr => by
    cases r
    · exact absurd rfl hr
    · exact h
  have hanswer (t : State) (hplace : t.hasPlace .upRsp = true) :
      (t.setPort .up { t.port .up with head := none }).carryFate (.noAgent f.dest) f = answered t :=
    carryFate_noAgent (s := t.setPort .up { t.port .up with head := none }) hi hplace f
  refine ⟨fun hp hk hr hlen => ?_, fun hp hk => ?_, fun hl hk hr hlen hspace hdrain => ?_⟩
  · have hfate := upFate_noAgent ht hp hk hr
    have hplace := (hasPlace_iff s .upRsp).mpr hlen
    have htaken := comesTo_judge (p := .up) hf (hother s hd) (.inl (by simp [hk])) (by simp [hfate, State.fits, Fate.queue, hplace])
    rw [hfate, hanswer s hplace] at htaken
    exact event_comesTo htaken
  · have hfate := upFate_miss ht hp hk
    have htaken := comesTo_judge (p := .up) hf (hother s hd) (by obtain ⟨hk, -⟩ | hk | ⟨-, hl⟩ := hk <;> simp_all)
      (by simp [hfate, State.fits, Fate.queue])
    rw [hfate] at htaken
    have hmissed : (s.setPort .up { s.port .up with head := none }).carryFate (.miss f.dest) f = taken s :=
      countMiss_of_index hi _
    rw [hmissed] at htaken
    exact event_comesTo htaken
  · have hport : (s.wentDown .dn).port .up = s.up := wentDown_port_of_ne s (by decide)
    have hqueue (q : QueueId) (hq : q ∉ txQueues .dn) : (s.wentDown .dn).queue q = s.queue q := by
      rw [wentDown_queue, flushQueues_queue_of_not_mem s hq]
    have hwait : (s.wentDown .dn).ctx.wait = s.ctx.wait := by rw [wentDown_ctx]
    have hheld : ((s.wentDown .dn).port .up).head = some f := by rw [hport, hf]
    have hfree : ((s.wentDown .dn).port .dn).head = none := by rw [wentDown_port_self]
    set v := (s.wentDown .dn).chooseBoth with hv
    have hdown : v.dn.linkUp = false :=
      (chooseBoth_keeps (fun t => t.dn.linkUp) (fun _ => rfl) _).trans (wentDown_linkUp s .dn)
    have hfate : v.fate .up f = .noAgent f.dest := upFate_noAgent ht (agentPowered_down hdown _) hk hr
    have hplace : v.hasPlace .upRsp = true := by
      refine (hasPlace_iff _ _).mpr ((chooseBoth_length_le _ _).trans_lt ?_)
      rw [hqueue .upRsp (by decide)]
      exact hlen
    have hfits : v.fits (v.fate .up f) = true := by simp [hfate, State.fits, Fate.queue, hplace]
    have hroom : v.contended s.before (v.fate .up f) = false := by
      rw [hfate]
      refine contended_of_room (s := s) ?_ ?_ (fun _ => .inl hlen) fun h => by simp [Fate.queue] at h
      · exact (chooseBoth_keeps (fun t => t.ctx.wait) (fun _ => rfl) _).trans hwait
      · exact (chooseBoth_cfgIn _).trans (hqueue .cfgIn (by decide))
    have htaken := comesTo_judge (p := .up) ((chooseBoth_head _ .up).trans hheld)
      (hother v ((chooseBoth_head _ .dn).trans hfree)) (.inl (by simp [hk])) hfits
    rw [hfate, hanswer v hplace] at htaken
    rw [exec_linkDown_up (p := .dn) hl, ← wentDown_dn hd]
    refine finish_held (m := 1) (p := .up) (by decide) (quiesce_one (w := .portDown .dn) ?_) hheld
      (hother _ hfree) hfits hroom htaken
    exact portWentDown_unwaited (by rwa [hwait]) (by rwa [hwait])
end

section
/-! # Requests of the hub

How a request reaches the configuration unit and is executed and answered (R182), the checks on it (R183), and the writes
of agent records and counting enables. -/

-- One declaration at a time: the threads that would wait for the kernel go past the limit on memory.
set_option Elab.async false

namespace Sys2Proof.Machine

open Sys2Proof

/-! ## Agent records and counting enables (R160, R87) -/

theorem selection_agent (a b : Byte) : selection 12 3 [a, b] = some [some a.toNat, some b.toNat, none] := by
  simp [selection, tableLayout, selectFields, rw, bytesValue_byte]

theorem selection_agentMisses (a b m : Byte) :
    selection 12 7 [a, b, m] = some [some a.toNat, some b.toNat, some m.toNat] := by
  simp [selection, tableLayout, selectFields, rw, bytesValue_byte]

theorem selection_present (m : Byte) : selection 12 1 [m] = some [some m.toNat, none, none] := by
  simp [selection, tableLayout, selectFields, rw, bytesValue_byte]

theorem selection_counting (v : Byte) : selection 8 1 [v] = some (some v.toNat :: List.replicate 8 none) := by
  simp [selection, tableLayout, selectFields, rw, ro, bytesValue_byte]

theorem toNat_ofNat_agent (i : Fin 14) : (BitVec.ofNat 8 (i.val + 1)).toNat = i.val + 1 :=
  toNat_ofNat_of_lt (by omega)

theorem toNat_ofNat_domain (d : DomainId) : (BitVec.ofNat 8 d.val).toNat = d.val := toNat_ofNat_of_lt (by omega)

theorem executeWrite_agent {mask : BitVec 16} {values : List Byte} {sel : List (Option Nat)} (hmask : mask ≠ 0)
    (hsel : selection 12 mask values = some sel) (s : State) (i : Fin 14) :
    s.executeWrite 12 (i.val + 1) mask values = s.writeAgent i sel := by
  have hindex : indexInRange 12 (i.val + 1) = true := by
    simp [indexInRange, tableRange]
    omega
  simp only [State.executeWrite, hindex, hsel, if_neg hmask, State.writeTable, Nat.add_sub_cancel, recordIndex_val]
  rfl

theorem executeWrite_counting {mask : BitVec 16} {values : List Byte} {sel : List (Option Nat)} (hmask : mask ≠ 0)
    (hsel : selection 8 mask values = some sel) (s : State) (d : DomainId) :
    s.executeWrite 8 d.val mask values = s.writeCounting d sel := by
  have hindex : indexInRange 8 d.val = true := by simp [indexInRange, tableRange]
  simp only [State.executeWrite, hindex, hsel, if_neg hmask, State.writeTable, recordIndex_val]
  rfl

/-- R160: a write with no count, or with the count 0, leaves the record as written. -/
theorem writeAgent_accepted (s : State) (i : Fin 14) (present : Bool) (powering : Option DomainId) {m : Option Nat}
    (hm : m.getD 0 = 0) :
    s.writeAgent i [some (boolCode present), some (optDomainCode powering), m] =
      ({ s with agents := s.agents.set i ⟨present, powering, m.getD (s.agents.get i).misses⟩ }, .ok) := by
  simp [State.writeAgent, AgentRecord.fields, mergeFields, agentRecordOf, hm, accept]

theorem boolOf_eq_none {n : Nat} (h : 1 < n) : boolOf n = none := by
  match n, h with
  | n + 2, _ => rfl

theorem writeCounting_eq (s : State) (d : DomainId) (v : Nat) (rest : List (Option Nat)) :
    s.writeCounting d (some v :: rest) =
      match boolOf v with
      | some b => (s.setDom d ((s.dom d).setCounting b), .ok)
      | none => (s, .badValue) := by
  simp only [State.writeCounting, List.getD_cons_zero, Option.bind_some]
  cases boolOf v <;> rfl

end Sys2Proof.Machine

open Sys2Proof Sys2Proof.Machine in
/-- Settles O53: the record that a write would leave is judged, and the miss counter takes 0 alone. -/
theorem agentAndCountingWrites : Obligations.AgentAndCountingWrites := by
  intro tag s h
  refine ⟨fun i present powering m => ⟨?kept, fun hm => ?cleared, fun hm => ?counted, fun hm => ?noFlag⟩,
    fun d v => ⟨fun hv => ?on, fun hv => ?off, fun hv => ?noCode⟩⟩
  case kept =>
    refine request_write h rfl ?_
    rw [toNat_ofNat_agent]
    refine (executeWrite_agent (by decide) (selection_agent _ _) s i).trans ?_
    rw [toNat_boolByte, toNat_ofNat_of_lt (optDomainCode_lt _)]
    exact writeAgent_accepted s i present powering (m := none) rfl
  case cleared =>
    refine request_write h rfl ?_
    rw [toNat_ofNat_agent]
    refine (executeWrite_agent (by decide) (selection_agentMisses _ _ _) s i).trans ?_
    rw [toNat_boolByte, toNat_ofNat_of_lt (optDomainCode_lt _), hm]
    exact writeAgent_accepted s i present powering (m := some 0) rfl
  case counted =>
    refine request_write h rfl ?_
    rw [toNat_ofNat_agent]
    refine (executeWrite_agent (by decide) (selection_agentMisses _ _ _) s i).trans (if_pos ?_)
    exact Nat.pos_of_ne_zero fun hzero => hm (BitVec.eq_of_toNat_eq hzero)
  case noFlag =>
    refine request_write h rfl ?_
    rw [toNat_ofNat_agent]
    refine (executeWrite_agent (by decide) (selection_present m) s i).trans ?_
    simp [State.writeAgent, AgentRecord.fields, mergeFields, agentRecordOf, boolOf_eq_none hm, State.refuse]
  case on =>
    refine request_write h rfl ?_
    rw [toNat_ofNat_domain]
    refine (executeWrite_counting (by decide) (selection_counting v) s d).trans ?_
    rw [writeCounting_eq, hv]
    cases hc : (s.dom d).counting <;> simp [boolOf, DomainRuntime.setCounting, hc]
  case off =>
    refine request_write h rfl ?_
    rw [toNat_ofNat_domain]
    refine (executeWrite_counting (by decide) (selection_counting v) s d).trans ?_
    rw [writeCounting_eq, hv]
    simp [boolOf, DomainRuntime.setCounting]
  case noCode =>
    refine request_write h rfl ?_
    rw [toNat_ofNat_domain]
    refine (executeWrite_counting (by decide) (selection_counting v) s d).trans ?_
    rw [writeCounting_eq, boolOf_eq_none hv]
end

section
/-! # A request is executed, queued, held or dropped

What a request of the hub meets at the UP port and at the input queue (R149, R150, R182), and the checks on a write and
on a read in their order (R183, R184). -/

-- One declaration at a time: the threads that would wait for the kernel go past the limit on memory.
set_option Elab.async false

namespace Sys2Proof.Machine

open Sys2Proof

/-! ## The input queue is served (R182) -/

theorem mayServe_iff (s : State) : s.mayServe = true ↔ (s.up.linkUp = true → s.queues.upRsp.length < 4) := by
  have hplace : s.hasPlace .upRsp = true ↔ s.queues.upRsp.length < 4 := hasPlace_iff s .upRsp
  cases hl : s.up.linkUp <;> simp [State.mayServe, hl, hplace]

theorem mayServe_eq_false {s : State} (hl : s.up.linkUp = true) (hfull : 4 ≤ s.queues.upRsp.length) :
    s.mayServe = false := by
  rw [Bool.eq_false_iff, Ne, mayServe_iff]
  exact fun h => absurd (h hl) (not_lt.mpr hfull)

/-- R182: the state after the queue's head is taken, executed and answered, `rest` being left. -/
def State.served (s : State) (f : Frame) (rest : List Frame) : State :=
  ((s.setQueue .cfgIn rest).execute f).1.respond ((s.setQueue .cfgIn rest).execute f).2

theorem serveRequest_served {s : State} {f : Frame} {rest : List Frame} (hq : s.queues.cfgIn = f :: rest)
    (h : s.mayServe = true) : s.serveRequest = s.served f rest :=
  serveRequest_cons hq h

theorem serveRequest_waits {s : State} (h : s.mayServe = false) : s.serveRequest = s := by
  unfold State.serveRequest
  split
  · rfl
  · simp [h]

theorem respond_head (s : State) (r : Frame) (p : Port) : ((s.respond r).port p).head = (s.port p).head := by
  unfold State.respond
  split
  · rw [enqueue_port]
  · cases p <;> rfl

theorem respond_headsEmpty {s : State} (h : s.HeadsEmpty) (r : Frame) : (s.respond r).HeadsEmpty :=
  .of_head fun p => (respond_head s r p).trans (h.head p)

theorem served_headsEmpty {s : State} (h : s.HeadsEmpty) (f : Frame) (rest : List Frame) :
    (s.served f rest).HeadsEmpty :=
  respond_headsEmpty ((State.Spares.execute (s.setQueue .cfgIn rest) f).headsEmpty h) _

theorem respond_cfgIn (s : State) (r : Frame) : (s.respond r).queues.cfgIn = s.queues.cfgIn := by
  unfold State.respond
  split
  · obtain ⟨-, e⟩ | ⟨-, e⟩ := enqueue_cases s .upRsp r <;> rw [e]
    rfl
  · rfl

/-- An executed request leaves the input queue as it is without its head. -/
theorem served_cfgIn (s : State) (f : Frame) (rest : List Frame) : (s.served f rest).queues.cfgIn = rest := by
  rw [State.served, respond_cfgIn, (State.Spares.execute (s.setQueue .cfgIn rest) f).queues]
  rfl

theorem serveRequest_headsEmpty {s : State} (h : s.HeadsEmpty) : s.serveRequest.HeadsEmpty := by
  obtain ⟨f, rest, -, -, e⟩ | e := serveRequest_cases s <;> rw [e]
  · exact served_headsEmpty h f rest
  · exact h

theorem comesTo_serve {s t : State} (h : s.HeadsEmpty) (ht : s.serveRequest = t) : comesTo (s, [.serve]) t :=
  ⟨1, by decide, quiesce_one (congrArg (·, []) ht), ht ▸ serveRequest_headsEmpty h⟩

/-! ## What a request meets (R149, R150, R182) -/

section
variable {s : State} {f : Frame}

theorem offerRequest_standing (hf : f.wf = true) (hq : s.queues.cfgIn.head? = some f) :
    s.offerRequest f = (s, [.serve]) := by
  simp [State.offerRequest, hf, hq]

theorem offerRequest_overrun (hf : f.wf = true) (hq : s.queues.cfgIn.head? ≠ some f) (hh : s.up.head ≠ none) :
    s.offerRequest f = (s.linkError .up, []) := by
  simp [State.offerRequest, hf, hq, Option.isSome_iff_ne_none.mpr hh]

theorem offerRequest_joins (hf : f.wf = true) (hq : s.queues.cfgIn.head? ≠ some f) (hh : s.up.head = none)
    (hlen : s.queues.cfgIn.length < 4) : s.offerRequest f = (s.setQueue .cfgIn (s.queues.cfgIn ++ [f]), [.serve]) := by
  have hplace : s.hasPlace .cfgIn = true := (hasPlace_iff s .cfgIn).mpr hlen
  have hjoin : s.enqueue .cfgIn f = s.setQueue .cfgIn (s.queues.cfgIn ++ [f]) := enqueue_of_place hplace f
  simp [State.offerRequest, hf, hq, hh, hplace, hjoin]

theorem offerRequest_full (hf : f.wf = true) (hq : s.queues.cfgIn.head? ≠ some f) (hh : s.up.head = none)
    (hlen : 4 ≤ s.queues.cfgIn.length) :
    s.offerRequest f =
      if s.mayServe then (s, [.serve, .carry (.place .cfgIn f) f])
      else (s.setPort .up { s.up with head := some f }, []) := by
  have hplace : s.hasPlace .cfgIn = false := by
    rw [Bool.eq_false_iff, Ne, hasPlace_iff]
    exact not_lt.mpr hlen
  simp [State.offerRequest, hf, hq, hh, hplace]

/-- R182: with the queue full, its head is executed first, and the request joins the rest. -/
theorem comesTo_serve_join (h : s.HeadsEmpty) {g : Frame} {rest : List Frame} (hq : s.queues.cfgIn = g :: rest)
    (hserve : s.mayServe = true) (hlen : rest.length = 3) :
    comesTo (s, [.serve, .carry (.place .cfgIn f) f]) ((s.served g rest).setQueue .cfgIn (rest ++ [f])) := by
  have hcfg := served_cfgIn s g rest
  have hplace : (s.served g rest).hasPlace .cfgIn = true :=
    (hasPlace_iff (s.served g rest) .cfgIn).mpr ((congrArg List.length hcfg).trans hlen ▸ by decide)
  have hjoin : (s.served g rest).carryFate (.place .cfgIn f) f = (s.served g rest).setQueue .cfgIn (rest ++ [f]) := by
    refine (enqueue_of_place hplace f).trans ?_
    change (s.served g rest).setQueue .cfgIn ((s.served g rest).queues.cfgIn ++ [f]) = _
    rw [hcfg]
  have hserved : micro .serve s = (s.served g rest, []) := congrArg (·, []) (serveRequest_served hq hserve)
  exact ⟨2, by decide, quiesce_append (quiesce_one hserved) (quiesce_one (congrArg (·, []) hjoin)),
    served_headsEmpty h g rest⟩

end

/-! ## The row of a queued request (R184 to R186) -/

/-- A read of the hub is the read row that spells it. -/
theorem requestOf_requestInstr_read {f : Frame} (hf : f.wf = true) (hk : f.kind = .cfgRd) (hd : f.dest = 15)
    (hs : f.source = 0) : requestOf (requestInstr f) = some f := by
  obtain ⟨kind, tag, dest, source, body⟩ := f
  obtain rfl : kind = .cfgRd := hk
  obtain rfl : dest = 15 := hd
  obtain rfl : source = 0 := hs
  obtain ⟨a, b, rfl⟩ := List.length_eq_two.mp (by simpa [Frame.wf, bodyFits] using hf)
  rfl

/-- A command of table 0 spells the command's row. -/
theorem requestOf_requestInstr_command (tag : BitVec 4) {code : Byte} (arg : BitVec 16)
    (h : 1 ≤ code.toNat ∧ code.toNat ≤ 7) :
    requestOf (requestInstr (cfgCommand tag code arg)) = some (cfgCommand tag code arg) := by
  have hcode (n : Nat) (hn : code.toNat = n) (hlt : n < 256) : code = BitVec.ofNat 8 n :=
    BitVec.eq_of_toNat_eq (hn.trans (Nat.mod_eq_of_lt hlt).symm)
  rw [requestInstr_command tag code arg h]
  have hrange : code.toNat = 1 ∨ code.toNat = 2 ∨ code.toNat = 3 ∨ code.toNat = 4 ∨ code.toNat = 5 ∨ code.toNat = 6
      ∨ code.toNat = 7 := by omega
  obtain hn | hn | hn | hn | hn | hn | hn := hrange <;> rw [hcode _ hn (by decide)] <;> rfl

/-- Any other write spells the row of its table. -/
theorem requestOf_requestInstr_write (tag : BitVec 4) {table : Byte} (index : Byte) (mask : BitVec 16)
    {values : List Byte} (h : isCommand table index mask values = false) :
    requestOf (requestInstr (cfgWrite tag table index mask values)) = some (cfgWrite tag table index mask values) := by
  have htable (n : Nat) (hn : table.toNat = n) (hlt : n < 256) : table = BitVec.ofNat 8 n :=
    BitVec.eq_of_toNat_eq (hn.trans (Nat.mod_eq_of_lt hlt).symm)
  rw [requestInstr_write tag table index mask values h]
  split
  case h_9 hn =>
    rw [htable _ hn (by decide)]
    split <;> rfl
  case h_10 => rfl
  all_goals
    rename_i hn
    rw [htable _ hn (by decide)]
    rfl

/-- The two bytes of a mask or of an argument are spelled by the word that they make. -/
theorem fieldBytes_append (a b : Byte) : fieldBytes 2 (a ++ b : BitVec 16).toNat = [a, b] := by
  have ha := a.isLt
  have hb := b.isLt
  have hword : (a ++ b : BitVec 16).toNat = a.toNat * 256 + b.toNat := by
    rw [BitVec.toNat_append, ← Nat.shiftLeft_add_eq_or_of_lt hb, Nat.shiftLeft_eq]
  have hhigh : BitVec.ofNat 8 ((a.toNat * 256 + b.toNat) / 256) = a := BitVec.eq_of_toNat_eq (by
    rw [BitVec.toNat_ofNat]
    omega)
  have hlow : BitVec.ofNat 8 (a.toNat * 256 + b.toNat) = b := BitVec.eq_of_toNat_eq (by
    rw [BitVec.toNat_ofNat]
    omega)
  rw [fieldBytes_two, hword, hhigh, hlow]

/-- R186: the writes that execute a command are the commands of table 0. -/
theorem cfgWrite_of_isCommand {table index : Byte} {mask : BitVec 16} {values : List Byte}
    (h : isCommand table index mask values = true) (tag : BitVec 4) :
    (1 ≤ index.toNat ∧ index.toNat ≤ 7)
      ∧ ∃ arg : BitVec 16, cfgWrite tag table index mask values = cfgCommand tag index arg := by
  simp only [isCommand, Bool.and_eq_true, beq_iff_eq, decide_eq_true_eq] at h
  obtain ⟨⟨⟨⟨rfl, hlo⟩, hhi⟩, rfl⟩, hlen⟩ := h
  obtain ⟨a, b, rfl⟩ := List.length_eq_two.mp hlen
  exact ⟨⟨hlo, hhi⟩, a ++ b, by rw [cfgCommand, fieldBytes_append]⟩

/-- A request of the hub in the input queue spells one row, whose frame it is. -/
theorem requestOf_requestInstr {f : Frame} (hf : f.wf = true) (h : f.hubRequest) : requestOf (requestInstr f) = some f := by
  obtain ⟨hk | hk, hd, hs⟩ := h
  · obtain ⟨kind, tag, dest, source, body⟩ := f
    obtain rfl : kind = .cfgWr := hk
    obtain rfl : dest = 15 := hd
    obtain rfl : source = 0 := hs
    have hlen : 4 ≤ body.length := by
      simp only [Frame.wf, bodyFits, Bool.and_eq_true, decide_eq_true_eq] at hf
      exact hf.1
    match body, hlen with
    | a :: b :: c :: d :: values, _ =>
      have hspell : (⟨.cfgWr, tag, 15, 0, a :: b :: c :: d :: values⟩ : Frame) = cfgWrite tag a b (c ++ d) values := by
        rw [cfgWrite, fieldBytes_append]
        rfl
      rw [hspell]
      cases hc : isCommand a b (c ++ d) values
      · exact requestOf_requestInstr_write tag b _ hc
      · obtain ⟨hrange, arg, hcommand⟩ := cfgWrite_of_isCommand hc tag
        rw [hcommand]
        exact requestOf_requestInstr_command tag arg hrange
  · exact requestOf_requestInstr_read hf hk hd hs

/-! ## The checks of a request (R183, R184) -/

/-- R184: a mask of 0 selects no field. -/
theorem selectFields_zero (k : Nat) (fs : List FieldSpec) :
    selectFields 0 k fs [] = some (List.replicate fs.length none) := by
  induction fs generalizing k with
  | nil => simp [selectFields]
  | cons f fs ih =>
    rw [selectFields, if_neg (by simp), ih]
    rfl

section
variable {s : State} {table index : Nat} {mask : BitVec 16} {values : List Byte}

theorem executeWrite_badTable (h : 14 < table) : s.executeWrite table index mask values = (s, .badTable) := by
  simp [State.executeWrite, h, State.refuse]

theorem executeWrite_badIndex (h : table ≤ 14) (hi : indexInRange table index = false) :
    s.executeWrite table index mask values = (s, .badIndex) := by
  simp [State.executeWrite, not_lt.mpr h, hi, State.refuse]

theorem executeWrite_readOnly (h : table ∈ [3, 4, 6, 7, 14]) (hi : indexInRange table index = true) :
    s.executeWrite table index mask values = (s, .readOnly) := by
  have hle : ¬ 14 < table := by
    simp only [List.mem_cons, List.not_mem_nil, or_false] at h
    omega
  have hro : readOnlyTable table = true := by simpa [readOnlyTable, or_assoc] using h
  simp [State.executeWrite, hle, hi, hro, State.refuse]

/-- R184: a write of a table with writable fields comes to its selection. -/
theorem executeWrite_selection (h : table ∈ [0, 1, 2, 5, 8, 9, 10, 12, 13]) (hi : indexInRange table index = true) :
    s.executeWrite table index mask values =
      match selection table mask values with
      | none => (s, .badValue)
      | some sel => if mask = 0 then (s, .ok) else s.writeTable table index sel := by
  simp only [List.mem_cons, List.not_mem_nil, or_false] at h
  have hle : ¬ 14 < table := by omega
  have hro : readOnlyTable table = false := by
    simp [readOnlyTable]
    omega
  have hne : table ≠ 11 := by omega
  simp only [State.executeWrite, if_neg hle, hi, hro, if_neg hne]
  cases selection table mask values <;> rfl

theorem selection_nothing (h : table ∈ [0, 1, 2, 5, 8, 9, 10, 12, 13]) : ∃ sel, selection table 0 [] = some sel := by
  obtain ⟨layout, hlayout⟩ : ∃ layout, tableLayout table = some layout := by
    simp only [List.mem_cons, List.not_mem_nil, or_false] at h
    obtain rfl | rfl | rfl | rfl | rfl | rfl | rfl | rfl | rfl := h <;> exact ⟨_, rfl⟩
  exact ⟨_, by rw [selection, hlayout, Option.bind_some, selectFields_zero]⟩

end

/-! ## What the event of a request comes to -/

section
variable {s : State} {f g : Frame} {rest : List Frame}

/-- R182: a request that meets an empty input queue and a place for its answer is executed and answered. -/
theorem request_executed (h : s.ConfigReady) (hf : f.wf = true) :
    s.request f = .next (s.ends ((s.execute f).1.respond (s.execute f).2)) := by
  rw [State.request, offerRequest_ready h hf]
  exact event_comesTo (comesTo_serve (s := s.setQueue .cfgIn [f]) h.1 (serveRequest_ready h f))

/-- A request that stands at the queue's head is the execution of that head, where its answer has a place. -/
theorem request_standing (hf : f.wf = true) (h : s.HeadsEmpty) (hq : s.queues.cfgIn = f :: rest)
    (hserve : s.mayServe = true) : s.request f = .next (s.ends (s.served f rest)) := by
  rw [State.request, offerRequest_standing hf (congrArg List.head? hq)]
  exact event_comesTo (comesTo_serve h (serveRequest_served hq hserve))

theorem request_standing_waits (hf : f.wf = true) (h : s.HeadsEmpty) (hq : s.queues.cfgIn.head? = some f)
    (hserve : s.mayServe = false) : s.request f = .next (s.ends s) := by
  rw [State.request, offerRequest_standing hf hq]
  exact event_comesTo (comesTo_serve h (serveRequest_waits hserve))

/-- A request behind another joins the queue, and the head is executed. -/
theorem request_behind (hf : f.wf = true) (h : s.HeadsEmpty) (hq : s.queues.cfgIn = g :: rest) (hne : g ≠ f)
    (hserve : s.mayServe = true) (hlen : rest.length < 3) :
    s.request f = .next (s.ends (s.served g (rest ++ [f]))) := by
  have hhead : s.queues.cfgIn.head? ≠ some f := by simpa [hq] using hne
  have hroom : s.queues.cfgIn.length < 4 := by
    rw [hq, List.length_cons]
    omega
  rw [State.request, offerRequest_joins hf hhead h.1 hroom, hq]
  exact event_comesTo (comesTo_serve (s := s.setQueue .cfgIn (g :: rest ++ [f])) h (serveRequest_served rfl hserve))

/-- With the queue full, the head is executed and the request joins the rest. -/
theorem request_behind_full (hf : f.wf = true) (h : s.HeadsEmpty) (hq : s.queues.cfgIn = g :: rest) (hne : g ≠ f)
    (hserve : s.mayServe = true) (hlen : rest.length = 3) :
    s.request f = .next (s.ends ((s.served g rest).setQueue .cfgIn (rest ++ [f]))) := by
  have hhead : s.queues.cfgIn.head? ≠ some f := by simpa [hq] using hne
  have hfull : 4 ≤ s.queues.cfgIn.length := by
    rw [hq, List.length_cons, hlen]
  rw [State.request, offerRequest_full hf hhead h.1 hfull, if_pos hserve]
  exact event_comesTo (comesTo_serve_join h hq hserve hlen)

/-- R182: with no place for an answer, a request waits in the input queue. -/
theorem request_waits (hf : f.wf = true) (h : s.HeadsEmpty) (hserve : s.mayServe = false)
    (hroom : s.queues.cfgIn.length < 4) (hhead : s.queues.cfgIn.head? ≠ some f) :
    s.request f = .next (s.ends (s.setQueue .cfgIn (s.queues.cfgIn ++ [f]))) := by
  rw [State.request, offerRequest_joins hf hhead h.1 hroom]
  exact event_comesTo (comesTo_serve (s := s.setQueue .cfgIn (s.queues.cfgIn ++ [f])) h (serveRequest_waits hserve))

/-- With no place for an answer and the input queue full, a request is held at the UP head. -/
theorem request_held (hf : f.wf = true) (h : s.HeadsEmpty) (hserve : s.mayServe = false)
    (hfull : 4 ≤ s.queues.cfgIn.length) (hhead : s.queues.cfgIn.head? ≠ some f)
    (hset : (s.setPort .up { s.up with head := some f }).Settled) :
    s.request f = .next (s.setPort .up { s.up with head := some f }) := by
  rw [State.request, offerRequest_full hf hhead h.1 hfull, hserve]
  exact finish_settled (quiesce_nil 0 _) hset s.before (by decide)

/-- R150: a request that meets a full UP head is an overrun. -/
theorem request_overrun (hf : f.wf = true) (hh : s.up.head ≠ none) (hhead : s.queues.cfgIn.head? ≠ some f)
    (hset : (s.linkError .up).Settled) : s.request f = .next (s.linkError .up) := by
  rw [State.request, offerRequest_overrun hf hhead hh]
  exact finish_settled (quiesce_nil 0 _) hset s.before (by decide)

end

/-- R182: with no command waiting and nothing due before it, the block executes the head of the input queue. -/
theorem step_serves {s : State} {f : Frame} {rest : List Frame} (h : s.HeadsEmpty) (hq : s.queues.cfgIn = f :: rest)
    (hf : f.wf = true) (hub : f.hubRequest) (hserve : s.mayServe = true) (hp : s.pending = [])
    (hd : s.dueDomain = none) (hs : s.dueSequencer = none) (hb : s.dueButton = none) :
    step s = .next (s.ends (s.served f rest)) := by
  have hidle (p : Port) : s.headFits p = false := by simp [State.headFits, h.head p]
  have hdue : s.dueCommand = some (requestInstr f) := by
    simp [State.dueCommand, hd, hs, hb, State.dueLink, hidle, hq, hserve]
  rw [step_nil hp, idle_of_due hdue, exec_request (requestOf_requestInstr hf hub)]
  exact request_standing hf h hq hserve

theorem respond_placed {s : State} (r : Frame) (hl : s.up.linkUp = true) (hroom : s.queues.upRsp.length < 4) :
    s.respond r = s.setQueue .upRsp (s.queues.upRsp ++ [r]) := by
  rw [State.respond, if_pos hl]
  exact enqueue_of_place ((hasPlace_iff s .upRsp).mpr hroom) r

theorem respond_discarded {s : State} (r : Frame) (hl : s.up.linkUp = false) : s.respond r = s.discard .up 1 := by
  simp [State.respond, hl]

theorem executeRead_badTable (s : State) {table : Nat} (index : Nat) (h : table = 0 ∨ 14 < table) :
    s.executeRead table index = (s, .badTable, []) :=
  if_pos h

theorem executeRead_badIndex (s : State) {table index : Nat} (h0 : table ≠ 0) (hle : table ≤ 14)
    (hi : indexInRange table index = false) : s.executeRead table index = (s, .badIndex, []) := by
  simp [State.executeRead, h0, not_lt.mpr hle, hi]

end Sys2Proof.Machine

open Sys2Proof Sys2Proof.Machine in
/-- Settles O44: what a request meets at the UP port and the input queue; the answer's place; the idle block's service
of the queue; the checks of a write and of a read, in their order. -/
theorem requestIsCheckedAndAnswered : Obligations.RequestIsCheckedAndAnswered := by
  refine ⟨fun i f s hi => ?_, fun r s => ⟨respond_placed r, respond_discarded r⟩, ?idle,
    fun tag table index mask values s hv h => ?_⟩
  case idle =>
    intro f rest s h hq hf hk hd hs hfree hp hdom hseq hbut
    exact step_serves h hq hf ⟨hk, hd, hs⟩ ((mayServe_iff s).mpr hfree) hp hdom hseq hbut
  · rw [exec_request hi]
    refine ⟨fun hf h => request_executed h hf, fun hf h g rest hq => ⟨?_, ?_, ?_, ?_⟩, ?_, ?_,
      fun hf hh hhead hset => request_overrun hf hh hhead hset, ?_, ?_⟩
    · rintro rfl hfree
      exact request_standing hf h hq ((mayServe_iff s).mpr hfree)
    · rintro rfl hfull
      exact request_standing_waits hf h (congrArg List.head? hq) (Bool.eq_false_iff.mpr (mt (mayServe_iff s).mp hfull))
    · exact fun hne hfree hlen => request_behind hf h hq hne ((mayServe_iff s).mpr hfree) hlen
    · exact fun hne hfree hlen => request_behind_full hf h hq hne ((mayServe_iff s).mpr hfree) hlen
    · exact fun hf h hl hfull hroom hhead => request_waits hf h (mayServe_eq_false hl hfull) hroom hhead
    · exact fun hf h hl hfull hcfg hhead hset => request_held hf h (mayServe_eq_false hl hfull) hcfg hhead hset
    · intro hf h hl
      rw [request_malformed h hf, if_pos hl]
      rfl
    · intro hf h hl
      rw [request_malformed h hf, hl]
      rfl
  · have hzero : table = 0 ∨ 14 < table.toNat → table.toNat = 0 ∨ 14 < table.toNat :=
      Or.imp_left (congrArg BitVec.toNat)
    have hnonzero (h0 : table ≠ 0) : table.toNat ≠ 0 := fun e => h0 (BitVec.eq_of_toNat_eq e)
    refine ⟨fun ht => request_write h hv (executeWrite_badTable ht),
      fun ht hix => request_write h hv (executeWrite_badIndex ht hix),
      fun ht hix => request_write h hv (executeWrite_readOnly ht hix), fun ht hix => ⟨?_, fun hsel => ?_⟩,
      fun ht => request_read h (executeRead_badTable s _ (hzero ht)),
      fun h0 ht hix => request_read h (executeRead_badIndex s (hnonzero h0) ht hix)⟩
    · rintro rfl rfl
      obtain ⟨sel, hsel⟩ := selection_nothing ht
      refine request_write h hv ((executeWrite_selection ht hix).trans ?_)
      rw [hsel]
      rfl
    · refine request_write h hv ((executeWrite_selection ht hix).trans ?_)
      rw [hsel]
end

section
/-! # Commands and writes of the staged tables

A command of table 0 (R186) and a write of a staged record (R166) reach the configuration unit by the same checks. -/

namespace Sys2Proof.Machine

open Sys2Proof

/-! ## Writes that select fields -/

/-- R183, R184: a write that passes the checks and selects a field is the table's own. -/
theorem executeWrite_selected {table index : Nat} {mask : BitVec 16} {values : List Byte} {sel : List (Option Nat)}
    (htable : table ∈ [0, 1, 2, 5, 8, 9, 10, 12, 13]) (hindex : indexInRange table index = true) (hmask : mask ≠ 0)
    (hsel : selection table mask values = some sel) (s : State) :
    s.executeWrite table index mask values = s.writeTable table index sel := by
  rw [executeWrite_selection htable hindex, hsel]
  exact if_neg hmask

/-- R186: the argument of a command is the one field of table 0. -/
theorem selection_argument {n : Nat} (h : n ≤ 65535) : selection 0 1 (fieldBytes 2 n) = some [some n] := by
  simp [selection, tableLayout, selectFields, rw, fieldBytes_two, bytesValue_word h]

/-- R186: a command that finds the unit ready is answered with its status. -/
theorem request_command {s t : State} {tag : BitVec 4} {code : Byte} {arg : BitVec 16} {st : CfgStatus}
    (h : s.ConfigReady) (hcode : 1 ≤ code.toNat ∧ code.toNat ≤ 7) (hc : s.command code.toNat arg.toNat = (t, st)) :
    s.request (cfgCommand tag code arg) = .next (s.ends (t.answered tag 0 code st [])) := by
  have hindex : indexInRange 0 code.toNat = true := by
    simp [indexInRange, tableRange]
    omega
  refine request_write h rfl ?_
  rw [← hc]
  exact executeWrite_selected (by simp) hindex (by decide) (selection_argument (Nat.le_of_lt_succ arg.isLt)) s

/-! ## Selections of the staged tables (R184) -/

theorem selection_header (n : Byte) : selection 1 1 [n] = some [some n.toNat] := by
  simp [selection, tableLayout, selectFields, rw, bytesValue_byte]

/-- Table 2: the bytes of a step record. -/
def Step.bytes (t : Step) : List Byte :=
  [t.kind.code, t.unit.code, t.action.code, t.place.code, t.level.code, t.signal.toNat,
      t.agent.toNat].map (BitVec.ofNat 8)
    ++ fieldBytes 2 t.budget ++ [t.retryTarget, t.retryCount, t.label.toNat].map (BitVec.ofNat 8)

/-- The step's numbers fit the sizes of their fields. -/
def Step.Fits (t : Step) : Prop := t.budget ≤ 65535 ∧ t.retryTarget ≤ 255 ∧ t.retryCount ≤ 255

/-- R166: a record in its ranges fits its fields. -/
theorem Step.fits_of_wf {t : Step} (h : t.wf = true) : t.Fits := by
  simp only [Step.wf, Bool.and_eq_true, decide_eq_true_eq] at h
  obtain ⟨⟨⟨⟨⟨-, hbudget⟩, -⟩, htarget⟩, -⟩, hcount⟩ := h
  exact ⟨hbudget, by omega, by omega⟩

theorem kindCode_lt (k : StepKind) : k.code < 256 := by
  cases k <;> decide

theorem unitCode_lt (u : StepUnit) : u.code < 256 := by
  cases u <;> decide

theorem actionCode_lt (a : FailAction) : a.code < 256 := by
  cases a <;> decide

theorem levelCode_lt (l : Level) : l.code < 256 := by
  cases l <;> decide

theorem placeCode_lt (p : DomOrPort) : p.code < 256 := by
  cases p with
  | domain d => exact lt_trans d.isLt (by decide)
  | port r => cases r <;> decide

/-- R184: a mask of the eleven fields takes a byte for each, and two for the budget. -/
theorem selection_step (a b c d e f g : Byte) {n : Nat} (hn : n ≤ 65535) (x y z : Byte) :
    selection 2 0x7FF ([a, b, c, d, e, f, g] ++ fieldBytes 2 n ++ [x, y, z])
      = some ([a.toNat, b.toNat, c.toNat, d.toNat, e.toNat, f.toNat, g.toNat, n, x.toNat, y.toNat,
          z.toNat].map some) := by
  simp [selection, tableLayout, selectFields, rw, fieldBytes_two, bytesValue_byte, bytesValue_word hn]

/-- R166: the bytes of a step record select its fields. -/
theorem selection_stepBytes {t : Step} (h : t.Fits) : selection 2 0x7FF t.bytes = some (t.fields.map some) := by
  obtain ⟨hbudget, htarget, hcount⟩ := h
  have hagent : t.agent.toNat < 256 := lt_trans t.agent.isLt (by decide)
  refine (selection_step _ _ _ _ _ _ _ hbudget _ _ _).trans ?_
  simp only [toNat_ofNat_of_lt (kindCode_lt _), toNat_ofNat_of_lt (unitCode_lt _), toNat_ofNat_of_lt (actionCode_lt _),
    toNat_ofNat_of_lt (placeCode_lt _), toNat_ofNat_of_lt (levelCode_lt _), toNat_ofNat_of_lt t.signal.isLt,
    toNat_ofNat_of_lt hagent, toNat_ofNat_of_lt (Nat.lt_succ_of_le htarget),
    toNat_ofNat_of_lt (Nat.lt_succ_of_le hcount), toNat_ofNat_of_lt t.label.isLt, Step.fields]

/-- Table 2: the selection of a step's budget. -/
def budgetSelection (n : Nat) : List (Option Nat) := List.replicate 7 none ++ some n :: List.replicate 3 none

theorem selection_budget {n : Nat} (h : n ≤ 65535) : selection 2 0x80 (fieldBytes 2 n) = some (budgetSelection n) := by
  simp [selection, tableLayout, selectFields, rw, fieldBytes_two, bytesValue_word h, budgetSelection]

/-- Table 5: the bytes of a domain configuration record. -/
def DomainConfig.bytes (c : DomainConfig) : List Byte :=
  [boolCode c.present, optDomainCode c.parent, boolCode c.pinned, boolCode c.critical].map (BitVec.ofNat 8)
    ++ fieldBytes 2 c.riseMin ++ fieldBytes 2 c.riseMax ++ fieldBytes 2 c.fallMin ++ fieldBytes 2 c.fallMax
    ++ fieldBytes 2 c.holdMin

/-- The figures of the record fit their two bytes. -/
def DomainConfig.Fits (c : DomainConfig) : Prop :=
  c.riseMin ≤ 65535 ∧ c.riseMax ≤ 65535 ∧ c.fallMin ≤ 65535 ∧ c.fallMax ≤ 65535 ∧ c.holdMin ≤ 65535

/-- R166: a record in its ranges fits its fields. -/
theorem DomainConfig.fits_of_wf {c : DomainConfig} (h : c.wf = true) : c.Fits := by
  simp only [DomainConfig.wf, Bool.and_eq_true, decide_eq_true_eq] at h
  unfold DomainConfig.Fits
  omega

/-- R184: a mask of the nine fields takes a byte for each of the first four, and two for each figure. -/
theorem selection_domain (a b c d : Byte) {v w x y z : Nat} (hv : v ≤ 65535) (hw : w ≤ 65535) (hx : x ≤ 65535)
    (hy : y ≤ 65535) (hz : z ≤ 65535) :
    selection 5 0x1FF
        ([a, b, c, d] ++ fieldBytes 2 v ++ fieldBytes 2 w ++ fieldBytes 2 x ++ fieldBytes 2 y ++ fieldBytes 2 z)
      = some ([a.toNat, b.toNat, c.toNat, d.toNat, v, w, x, y, z].map some) := by
  simp [selection, tableLayout, selectFields, rw, fieldBytes_two, bytesValue_byte, bytesValue_word hv,
    bytesValue_word hw, bytesValue_word hx, bytesValue_word hy, bytesValue_word hz]

/-- R166: the bytes of a domain configuration record select its fields. -/
theorem selection_domainBytes {c : DomainConfig} (h : c.Fits) :
    selection 5 0x1FF c.bytes = some (c.fields.map some) := by
  obtain ⟨hriseMin, hriseMax, hfallMin, hfallMax, hhold⟩ := h
  refine (selection_domain _ _ _ _ hriseMin hriseMax hfallMin hfallMax hhold).trans ?_
  simp only [toNat_ofNat_of_lt (boolCode_lt _), toNat_ofNat_of_lt (optDomainCode_lt _), DomainConfig.fields]

/-! ## Records from their codes (R166) -/

@[simp] theorem stepKindOf_code (k : StepKind) : stepKindOf k.code = some k := by
  cases k <;> rfl

@[simp] theorem stepUnitOf_code (u : StepUnit) : stepUnitOf u.code = some u := by
  cases u <;> rfl

@[simp] theorem failActionOf_code (a : FailAction) : failActionOf a.code = some a := by
  cases a <;> rfl

@[simp] theorem levelOf_code (l : Level) : levelOf l.code = some l := by
  cases l <;> rfl

@[simp] theorem domOrPortOf_code (p : DomOrPort) : domOrPortOf p.code = some p := by
  cases p with
  | domain d => exact dif_pos d.isLt
  | port r => cases r <;> rfl

/-- R166: the codes of a step spell it where it keeps its ranges. -/
theorem stepOf_fields (t : Step) : stepOf t.fields = if t.wf then some t else none := by
  have hagent : t.agent.toNat < 16 := t.agent.isLt
  simp [stepOf, Step.fields, hagent]

/-- R166: the codes of a domain configuration record spell it where it keeps its ranges. -/
theorem domainConfigOf_fields (c : DomainConfig) : domainConfigOf c.fields = if c.wf then some c else none := by
  simp [domainConfigOf, DomainConfig.fields]

/-! ## What a write leaves -/

/-- R166: the state in which the staged plan of a slot is this one. -/
def State.stagePlan (s : State) (k : SlotId) (p : Plan) : State :=
  { s with staged := { s.staged with plans := s.staged.plans.set k p } }

/-- R166: a header of at most 32 steps is taken. -/
theorem writeHeader_eq (s : State) (k : SlotId) (n : Nat) :
    s.writeHeader k [some n] =
      if n ≤ 32 then (s.stagePlan k { s.staged.plans.get k with count := n }, .ok) else (s, .badValue) := rfl

/-- R166: the step record as it would stand is taken where it keeps its ranges. -/
theorem writeStep_of_fields {s : State} {k : SlotId} {i : Fin 32} {sel : List (Option Nat)} {t : Step}
    (h : mergeFields ((s.staged.plans.get k).steps.get i).fields sel = t.fields) :
    s.writeStep k i sel =
      if t.wf then
        (s.stagePlan k { s.staged.plans.get k with steps := (s.staged.plans.get k).steps.set i t }, .ok)
      else (s, .badValue) := by
  simp only [State.writeStep, h, stepOf_fields]
  cases t.wf <;> rfl

/-- R184: a write of every field leaves the step written. -/
theorem mergeFields_step (old t : Step) : mergeFields old.fields (t.fields.map some) = t.fields :=
  mergeFields_all rfl

/-- R184: a write of the budget leaves the other fields. -/
theorem mergeFields_budget (old : Step) (n : Nat) :
    mergeFields old.fields (budgetSelection n) = Step.fields { old with budget := n } := rfl

/-- R166: a whole domain configuration record is taken where it keeps its ranges. -/
theorem writeDomain_all (s : State) (d : DomainId) (c : DomainConfig) :
    s.writeDomain d (c.fields.map some) =
      if c.wf then ({ s with staged := { s.staged with domains := s.staged.domains.set d c } }, .ok)
      else (s, .badValue) := by
  have hmerge : mergeFields (s.staged.domains.get d).fields (c.fields.map some) = c.fields := mergeFields_all rfl
  simp only [State.writeDomain, hmerge, domainConfigOf_fields]
  cases c.wf <;> rfl

/-! ## The rows of the staged tables -/

section Rows

variable {s t : State} {tag : BitVec 4} {k : SlotId} {mask : BitVec 16} {values : List Byte} {sel : List (Option Nat)}
  {st : CfgStatus}

/-- R166: a write of a plan header. -/
theorem exec_stagedWrite_header (h : s.ConfigReady) (n : Byte) (hw : s.writeHeader k [some n.toNat] = (t, st)) :
    exec (.stagedWrite tag .planHeader (BitVec.ofNat 8 k.val) 1 [n]) s
      = .next (s.ends (t.answered tag 1 (BitVec.ofNat 8 k.val) st [])) := by
  have hindex : indexInRange 1 k.val = true := by simp [indexInRange, tableRange]
  refine request_write h rfl ?_
  rw [toNat_ofNat_of_lt (by omega), ← hw]
  refine (executeWrite_selected (by simp) hindex (by decide) (selection_header n) s).trans ?_
  simp only [State.writeTable, recordIndex_val]

/-- R166: the index of a step is its slot's thirty-two and its place. -/
theorem stepPlace_index (k : SlotId) (i : Fin 32) : stepPlace (32 * k.val + i.val) = some (k, i) := by
  have hslot : (32 * k.val + i.val) / 32 = k.val := by omega
  have hstep : (32 * k.val + i.val) % 32 = i.val := by omega
  simp only [stepPlace, hslot, hstep, recordIndex_val, Option.map_some]

/-- R166: a write of a plan step. -/
theorem exec_stagedWrite_step (h : s.ConfigReady) (i : Fin 32) (hfit : valuesFit values = true) (hmask : mask ≠ 0)
    (hsel : selection 2 mask values = some sel) (hw : s.writeStep k i sel = (t, st)) :
    exec (.stagedWrite tag .planStep (BitVec.ofNat 8 (32 * k.val + i.val)) mask values) s
      = .next (s.ends (t.answered tag 2 (BitVec.ofNat 8 (32 * k.val + i.val)) st [])) := by
  have hindex : indexInRange 2 (32 * k.val + i.val) = true := by
    simp [indexInRange, tableRange]
    omega
  refine request_write h hfit ?_
  rw [toNat_ofNat_of_lt (by omega), ← hw]
  refine (executeWrite_selected (by simp) hindex hmask hsel s).trans ?_
  simp only [State.writeTable, stepPlace_index]

/-- R166: a write of a domain configuration record. -/
theorem exec_stagedWrite_domain (h : s.ConfigReady) (d : DomainId) {c : DomainConfig} (hfit : c.Fits)
    (hw : s.writeDomain d (c.fields.map some) = (t, st)) :
    exec (.stagedWrite tag .domainConfig (BitVec.ofNat 8 d.val) 0x1FF c.bytes) s
      = .next (s.ends (t.answered tag 5 (BitVec.ofNat 8 d.val) st [])) := by
  have hindex : indexInRange 5 d.val = true := by simp [indexInRange, tableRange]
  refine request_write h rfl ?_
  rw [toNat_ofNat_domain, ← hw]
  refine (executeWrite_selected (by simp) hindex (by decide) (selection_domainBytes hfit) s).trans ?_
  simp only [State.writeTable, recordIndex_val]

end Rows

end Sys2Proof.Machine

open Sys2Proof Sys2Proof.Machine in
/-- Settles O49: the bytes of a record spell its fields, so that the record as it would stand is taken or refused by its
ranges alone. -/
theorem stagedWritesReplaceRecords : Obligations.StagedWritesReplaceRecords := by
  intro tag k s h setPlan plan
  refine ⟨fun n => ⟨fun hn => ?header, fun hn => ?longHeader⟩,
    fun i t => ⟨fun hwf => ?step, fun hwf hbudget htarget hcount => ?stepRange, fun n hn _ hwf => ?budget⟩,
    fun d c => ⟨fun hwf => ?domain, fun hwf hriseMin hriseMax hfallMin hfallMax hhold => ?domainRange⟩⟩
  case header => exact exec_stagedWrite_header h n ((writeHeader_eq s k _).trans (if_pos hn))
  case longHeader => exact exec_stagedWrite_header h n ((writeHeader_eq s k _).trans (if_neg (not_le.mpr hn)))
  case step =>
    exact exec_stagedWrite_step h i rfl (by decide) (selection_stepBytes (Step.fits_of_wf hwf))
      ((writeStep_of_fields (mergeFields_step _ t)).trans (if_pos hwf))
  case stepRange =>
    exact exec_stagedWrite_step h i rfl (by decide) (selection_stepBytes ⟨hbudget, htarget, hcount⟩)
      ((writeStep_of_fields (mergeFields_step _ t)).trans (if_neg (by simp [hwf])))
  case budget =>
    exact exec_stagedWrite_step h i rfl (by decide) (selection_budget hn)
      ((writeStep_of_fields (mergeFields_budget _ n)).trans (if_pos hwf))
  case domain =>
    exact exec_stagedWrite_domain h d (DomainConfig.fits_of_wf hwf) ((writeDomain_all s d c).trans (if_pos hwf))
  case domainRange =>
    exact exec_stagedWrite_domain h d ⟨hriseMin, hriseMax, hfallMin, hfallMax, hhold⟩
      ((writeDomain_all s d c).trans (if_neg (by simp [hwf])))
end

section
/-! # Applies

APPLY_AT_REST marks the items of its mask; APPLY_NOW judges them, the domain set before the plans (R169 to R172). -/

namespace Sys2Proof.Machine

open Sys2Proof

/-! ## Items marked (R172) -/

/-- R172: what marking a list of items leaves. -/
theorem markItems_list (sel : ItemId → Bool) (l : List ItemId) (s : State) :
    let u := l.foldl (fun t k => if sel k then t.markPending k else t) s
    u = { s with applyPending := u.applyPending, applyStatus := u.applyStatus }
      ∧ ∀ j, u.applyPending.get j = (s.applyPending.get j || (decide (j ∈ l) && sel j))
          ∧ u.applyStatus.get j = if j ∈ l ∧ sel j = true then .inProgress else s.applyStatus.get j := by
  induction l generalizing s with
  | nil => exact ⟨rfl, fun j => by simp⟩
  | cons k l ih =>
    cases hk : sel k
    · obtain ⟨hframe, hitem⟩ := ih s
      simp only [List.foldl_cons, hk, Bool.false_eq_true, if_false]
      refine ⟨hframe, fun j => ?_⟩
      obtain rfl | hj := eq_or_ne j k
      · simpa [hk] using hitem j
      · simpa [hj] using hitem j
    · obtain ⟨hframe, hitem⟩ := ih (s.markPending k)
      simp only [List.foldl_cons, hk, if_true]
      refine ⟨hframe, fun j => ?_⟩
      obtain rfl | hj := eq_or_ne j k
      · simpa [hk, State.markPending] using hitem j
      · simpa [hj, State.markPending, get_set] using hitem j

/-- R172: every item of the selection is marked, and no other. -/
theorem markItems_item (s : State) (sel : ItemId → Bool) (j : ItemId) :
    (s.markItems sel).applyPending.get j = (s.applyPending.get j || sel j)
      ∧ (s.markItems sel).applyStatus.get j = if sel j then .inProgress else s.applyStatus.get j := by
  obtain ⟨-, hitem⟩ := markItems_list sel (List.finRange 8) s
  simpa [State.markItems] using hitem j

theorem markItems_frame (s : State) (sel : ItemId → Bool) :
    s.markItems sel =
      { s with applyPending := (s.markItems sel).applyPending, applyStatus := (s.markItems sel).applyStatus } :=
  (markItems_list sel (List.finRange 8) s).1

/-! ## The items (R169) -/

/-- R169: the domain set is item 7, the plans are the items before it. -/
theorem castSucc_ne_set (k : SlotId) : k.castSucc ≠ (7 : ItemId) := (Fin.castSucc_lt_last k).ne

/-- What an apply writes of a slot's plan: the active plan, its mark and its status. -/
def State.planItem (s : State) (k : SlotId) : Plan × Bool × ApplyStatus :=
  (s.active.plans.get k, s.applyPending.get k.castSucc, s.applyStatus.get k.castSucc)

/-! ## The domain set applied (R169, R170) -/

/-- R169, R170: from `s` to `t` the domain set is applied, where `b` says that it is selected, and no plan is. -/
structure State.SetApplied (s t : State) (b : Bool) : Prop where
  frame : t = { s with
    active := { s.active with domains := t.active.domains }, domains := t.domains, notices := t.notices,
    applyPending := t.applyPending, applyStatus := t.applyStatus }
  set : t.active.domains
    = if b = true ∧ s.judgeDomainSet s.staged.domains = .success then s.staged.domains else s.active.domains
  mark : t.applyPending.get 7 = (s.applyPending.get 7 && !b)
  status : t.applyStatus.get 7 = if b then s.judgeDomainSet s.staged.domains else s.applyStatus.get 7
  item : ∀ k, t.planItem k = s.planItem k

namespace State.SetApplied

variable {s t : State} {b : Bool}

/-- R170, R171: the outcome is written over a state whose active domains are those that the judgement leaves. -/
theorem setOutcome {ds : Vector DomainConfig 10}
    (ht : t = { s.withDomains ds with domains := t.domains, notices := t.notices })
    (hds : ds = if s.judgeDomainSet s.staged.domains = .success then s.staged.domains else s.active.domains) :
    s.SetApplied (t.setOutcome 7 (s.judgeDomainSet s.staged.domains)) true := by
  have hitem (k : SlotId) : t.planItem k = s.planItem k := by rw [ht]; rfl
  refine ⟨?_, ?_, ?_, get_set_self _ 7 _, fun k => ?_⟩
  · rw [State.setOutcome, ht]
    rfl
  · rw [State.setOutcome, ht]
    simpa [State.withDomains] using hds
  · rw [Bool.not_true, Bool.and_false]
    exact get_set_self _ 7 _
  · rw [← hitem, State.planItem, State.setOutcome, get_set_of_ne _ _ (castSucc_ne_set k),
      get_set_of_ne _ _ (castSucc_ne_set k)]
    rfl

theorem applyDomains (s : State) : s.SetApplied s.applyDomains true := by
  classical
  unfold State.applyDomains
  dsimp only
  by_cases hj : s.judgeDomainSet s.staged.domains = .success
  · obtain ⟨hg, -, -⟩ := judgeDomainSet_success hj
    rw [if_pos hj]
    exact setOutcome (copyDomainSet_rewrites s hg).frame (if_pos hj).symm
  · rw [if_neg hj]
    exact setOutcome rfl (if_neg hj).symm

theorem refl (s : State) : s.SetApplied s false :=
  ⟨rfl, by simp, by simp, rfl, fun _ => rfl⟩

theorem staged (h : s.SetApplied t b) : t.staged = s.staged := by rw [h.frame]

theorem plans (h : s.SetApplied t b) : t.active.plans = s.active.plans := by
  rw [h.frame]

theorem selected (s : State) (b : Bool) : s.SetApplied (if b then s.applyDomains else s) b := by
  cases b
  · exact refl s
  · exact applyDomains s

end State.SetApplied

/-! ## Plans applied (R169, R170) -/

/-- R169, R170: what the apply of a slot's plan leaves of it. -/
def State.planApplied (s : State) (k : SlotId) : Plan × Bool × ApplyStatus :=
  let outcome := s.judgePlan k (s.staged.plans.get k)
  (if outcome = .success then s.staged.plans.get k else s.active.plans.get k, false, outcome)

/-- R168: a plan is judged by the active domain set and the signal table alone. -/
theorem judgePlan_congr {s t : State} (hd : t.active.domains = s.active.domains) (hs : t.signals = s.signals)
    (k : SlotId) (p : Plan) : t.judgePlan k p = s.judgePlan k p := by
  have hstep (x : Step) : t.stepReference x = s.stepReference x := by
    simp only [State.stepReference, State.cfg, State.tracksKey, State.lookup, State.findSignal, hd, hs]
  simp only [State.judgePlan, hstep]

/-- R169, R170: from `s` to `t` the selected slots' plans are applied, and nothing else is touched. -/
structure State.PlansApplied (s t : State) (sel : SlotId → Bool) : Prop where
  frame : t = { s with
    active := { s.active with plans := t.active.plans }, applyPending := t.applyPending, applyStatus := t.applyStatus }
  setMark : t.applyPending.get 7 = s.applyPending.get 7
  setStatus : t.applyStatus.get 7 = s.applyStatus.get 7
  item : ∀ k, t.planItem k = if sel k then s.planApplied k else s.planItem k

namespace State.PlansApplied

variable {s t u : State} {f g : SlotId → Bool}

theorem refl (s : State) : s.PlansApplied s fun _ => false := ⟨rfl, rfl, rfl, fun _ => rfl⟩

theorem judge (h : s.PlansApplied t f) (k : SlotId) (p : Plan) : t.judgePlan k p = s.judgePlan k p :=
  judgePlan_congr (by rw [h.frame]) (by rw [h.frame]) k p

theorem staged (h : s.PlansApplied t f) : t.staged = s.staged := by rw [h.frame]

/-- A plan applied twice is applied once. -/
theorem applied (h : s.PlansApplied t f) (k : SlotId) : t.planApplied k = s.planApplied k := by
  have hplan : t.active.plans.get k = (if f k then s.planApplied k else s.planItem k).1 := congrArg Prod.fst (h.item k)
  simp only [State.planApplied, State.planItem, h.judge, h.staged] at hplan ⊢
  rw [hplan]
  split_ifs <;> rfl

theorem trans (h : s.PlansApplied t f) (h' : t.PlansApplied u g) : s.PlansApplied u fun k => f k || g k := by
  refine ⟨?_, h'.setMark.trans h.setMark, h'.setStatus.trans h.setStatus, fun k => ?_⟩
  · rw [h'.frame, h.frame]
  · rw [h'.item, h.applied, h.item]
    cases f k <;> cases g k <;> rfl

/-- R169: the apply of one plan. -/
theorem applyPlan (s : State) (j : SlotId) : s.PlansApplied (s.applyPlan j) fun k => decide (k = j) := by
  have hset : (7 : ItemId) ≠ j.castSucc := (castSucc_ne_set j).symm
  have heq : s.applyPlan j = { s with
      active := { s.active with plans := s.active.plans.set j (s.planApplied j).1 }
      applyPending := s.applyPending.set j.castSucc.val false j.castSucc.isLt
      applyStatus := s.applyStatus.set j.castSucc.val (s.planApplied j).2.2 j.castSucc.isLt } := by
    unfold State.applyPlan State.planApplied
    dsimp only
    split
    · rfl
    · simp only [State.setOutcome, get_eq_getElem, Vector.set_getElem_self]
  rw [heq]
  refine ⟨rfl, get_set_of_ne _ _ hset, get_set_of_ne _ _ hset, fun k => ?_⟩
  obtain rfl | hk := eq_or_ne k j
  · simp only [State.planItem, get_set_self, decide_true, if_true]
    rfl
  · have hitem : k.castSucc ≠ j.castSucc := (Fin.castSucc_injective 7).ne hk
    simp only [State.planItem, get_set_of_ne _ _ hk, get_set_of_ne _ _ hitem, hk, decide_false]
    rfl

theorem congr (h : s.PlansApplied t f) (hfg : ∀ k, f k = g k) : s.PlansApplied t g := funext hfg ▸ h

/-- R169: a plan is applied where it is selected. -/
theorem applyPlan_if (s : State) (sel : SlotId → Bool) (j : SlotId) :
    s.PlansApplied (if sel j then s.applyPlan j else s) fun k => decide (k = j) && sel k := by
  have hsel (k : SlotId) : (decide (k = j) && sel j) = (decide (k = j) && sel k) := by
    obtain rfl | hk := eq_or_ne k j
    · rfl
    · simp [hk]
  refine congr (f := fun k => decide (k = j) && sel j) ?_ hsel
  cases sel j
  · exact (refl s).congr fun k => (Bool.and_false _).symm
  · exact (applyPlan s j).congr fun k => (Bool.and_true _).symm

/-- R169: the applies of the selected plans of a list. -/
theorem applyPlans (sel : SlotId → Bool) (l : List SlotId) (s : State) :
    s.PlansApplied (l.foldl (fun t k => if sel k then t.applyPlan k else t) s) fun k => decide (k ∈ l) && sel k := by
  induction l generalizing s with
  | nil => exact refl s
  | cons j l ih =>
    refine ((applyPlan_if s sel j).trans (ih _)).congr fun k => ?_
    rw [← Bool.and_or_distrib_right, ← Bool.decide_or]
    simp only [List.mem_cons]

/-- R169: the plans are applied after the domain set, and judged against it as it then stands. -/
theorem applyItems (s : State) (sel : ItemId → Bool) :
    (if sel 7 then s.applyDomains else s).PlansApplied (s.applyItems sel) fun k => sel k.castSucc :=
  (applyPlans (fun k => sel k.castSucc) (List.finRange 7) _).congr fun k => by simp

end State.PlansApplied

/-! ## The commands (R171, R172, R186) -/

theorem command_badValue {s : State} {code n : Nat} (hcode : code = 1 ∨ code = 2) (h : 256 ≤ n) :
    s.command code n = (s, .badValue) := by
  obtain rfl | rfl := hcode <;> exact if_pos h

/-- R172: APPLY_AT_REST. -/
theorem command_atRest {s : State} {n : Nat} (h : n < 256) : s.command 2 n = (s.markItems (itemSelection n), .ok) :=
  if_neg (not_le.mpr h)

theorem command_busy {s : State} {n : Nat} (h : n < 256) (hrun : s.platform.planRunning = true) :
    s.command 1 n = (s, .busy) :=
  (if_neg (not_le.mpr h)).trans (if_pos hrun)

/-- R171: APPLY_NOW with no plan running. -/
theorem command_now {s : State} {n : Nat} (h : n < 256) (hrun : s.platform.planRunning = false) :
    s.command 1 n = (s.applySelected (itemSelection n), .ok) :=
  (if_neg (not_le.mpr h)).trans (if_neg (by simp [hrun]))

/-- R171: a mask with a bit set names an item. -/
theorem itemSelection_any {n : Nat} (h : n < 256) : (List.finRange 8).any (itemSelection n) = true ↔ n ≠ 0 := by
  simp only [List.any_eq_true, List.mem_finRange, true_and, itemSelection]
  constructor
  · rintro ⟨k, hk⟩ rfl
    simp at hk
  · intro hn
    obtain ⟨i, hi⟩ := Nat.exists_testBit_of_ne_zero hn
    have hlt : i < 8 := Nat.lt_of_not_le fun hge => by
      have hsmall : n < 2 ^ i := lt_of_lt_of_le h (Nat.pow_le_pow_right (n := 2) (by decide) hge)
      simp [Nat.testBit_lt_two_pow hsmall] at hi
    exact ⟨⟨i, hlt⟩, hi⟩

end Sys2Proof.Machine

open Sys2Proof Sys2Proof.Machine in
/-- Settles O47: a mark and an outcome are written item by item; the plans come after the domain set, and none of them
touches what another is judged by. -/
theorem applyCommands : Obligations.ApplyCommands := by
  intro tag arg s h
  have now {t : State} {st : CfgStatus} (hc : s.command 1 arg.toNat = (t, st)) :
      exec (.applyNow tag arg) s = .next (s.ends (t.answered tag 0 1 st [])) := request_command h (by decide) hc
  have atRest {t : State} {st : CfgStatus} (hc : s.command 2 arg.toNat = (t, st)) :
      exec (.applyAtRest tag arg) s = .next (s.ends (t.answered tag 0 2 st [])) := request_command h (by decide) hc
  refine ⟨fun hbig => ⟨now (command_badValue (.inl rfl) hbig), atRest (command_badValue (.inr rfl) hbig)⟩,
    fun hfit => ⟨_, atRest (command_atRest hfit), markItems_frame s _, markItems_item s _⟩,
    fun hfit hrun => now (command_busy hfit hrun), fun hzero hrun => ?none, fun hfit hsome hrun => ?items⟩
  case none =>
    subst hzero
    exact now (command_now (by decide) hrun)
  case items =>
    intro base
    have hany : (List.finRange 8).any (itemSelection arg.toNat) = true :=
      (itemSelection_any hfit).mpr fun h0 => hsome (BitVec.eq_of_toNat_eq h0)
    have hset : s.SetApplied base (arg.getLsbD 7) := State.SetApplied.selected s _
    have hplans : base.PlansApplied (s.applyItems (itemSelection arg.toNat)) fun k => arg.getLsbD k.val :=
      State.PlansApplied.applyItems s (itemSelection arg.toNat)
    refine ⟨s.applyItems (itemSelection arg.toNat), now ((command_now hfit hrun).trans ?_), ?_, ?_,
      hplans.setMark.trans hset.mark, hplans.setStatus.trans hset.status, fun k => ?_⟩
    · rw [State.applySelected, if_pos hany]
    · rw [hplans.frame, hset.frame]
    · rw [hplans.frame]
      exact hset.set
    · intro outcome
      have hitem := hplans.item k
      rw [State.planApplied, hset.item, hset.staged, hset.plans] at hitem
      simp only [State.planItem] at hitem
      cases hk : arg.getLsbD k.val
      · simpa [hk] using hitem
      · simpa [hk] using hitem
end

section
/-! # Denied requests, commands of table 0, and the owed NOTE

A request from the segment is answered from its header (R187), the commands 3 to 7 of table 0 (R186), and the NOTE: when
it is owed, what it says, and when it is queued (R189 to R191). -/

-- One declaration at a time: the threads that would wait for the kernel go past the limit on memory.
set_option Elab.async false

namespace Sys2Proof.Machine

open Sys2Proof

/-! ## Commands 3 to 7 of table 0 (R186) -/

/-- R186: an argument of notice flags has no bit 15. -/
theorem getLsbD_fifteen (arg : BitVec 16) : arg.getLsbD 15 = decide (32768 ≤ arg.toNat) :=
  (BitVec.msb_eq_getLsbD_last arg).symm.trans (BitVec.msb_eq_decide arg)

theorem command_noticesBadValue {s : State} {code n : Nat} (hcode : code = 3 ∨ code = 4) (h : 32768 ≤ n) :
    s.command code n = (s, .badValue) := by
  obtain rfl | rfl := hcode <;> exact if_pos h

theorem command_clearNotices {s : State} {n : Nat} (h : n < 32768) :
    s.command 3 n
      = ({ s with notices := { s.notices with flags := s.notices.flags &&& ~~~(BitVec.ofNat 15 n) } }, .ok) :=
  if_neg (not_le.mpr h)

theorem command_setNoticeEnable {s : State} {n : Nat} (h : n < 32768) :
    s.command 4 n = ({ s with notices := { s.notices with enables := BitVec.ofNat 15 n } }, .ok) :=
  if_neg (not_le.mpr h)

/-- R186: CLEAR_COUNTERS leaves every agent's record but its miss counter. -/
theorem clearCounters_agents (s : State) (a : Fin 14) :
    s.clearCounters.agents.get a = { s.agents.get a with misses := 0 } := by
  simp [State.clearCounters, get_eq_getElem]

/-! ## The flags of the notice unit (R189, R190) -/

theorem Notice.bit_lt (n : Notice) : n.bit < 15 := by
  cases n <;> decide

/-- R189: the mask of a flag has its bit alone. -/
theorem Notice.getLsbD_mask (n : Notice) (j : Nat) : n.mask.getLsbD j = (j == n.bit) := by
  have hbit := n.bit_lt
  rw [Notice.mask, BitVec.getLsbD_ofNat, Nat.testBit_two_pow]
  obtain rfl | hne := eq_or_ne n.bit j
  · simp [hbit]
  · simp [hne, hne.symm]

/-! ## The NOTE (R191) -/

theorem exec_noteQueued (s : State) : exec .noteQueued s = s.event (s.tryNote, []) := rfl

/-- R191: an owed NOTE waits for UP and for a place in UP-RSP. -/
theorem noteReady_iff_length (s : State) :
    s.noteReady = true ↔ s.notices.owed = true ∧ s.up.linkUp = true ∧ s.queues.upRsp.length < 4 :=
  (noteReady_iff s).trans (and_congr_right fun _ => and_congr_right fun _ => hasPlace_iff s .upRsp)

theorem tryNote_ready {s : State} (h : s.noteReady = true) : s.tryNote = s.queueNote := if_pos h

theorem tryNote_idle {s : State} (h : s.noteReady = false) : s.tryNote = s := by
  simp [State.tryNote, h]

theorem exec_noteQueued_ready {s : State} (h : s.HeadsEmpty) (hr : s.noteReady = true) :
    exec .noteQueued s = .next (s.ends s.queueNote) := by
  rw [exec_noteQueued, tryNote_ready hr]
  exact event_comesTo (comesTo_nil (queueNote_headsEmpty h))

theorem exec_noteQueued_idle {s : State} (h : s.HeadsEmpty) (hr : s.noteReady = false) :
    exec .noteQueued s = .next (s.ends s) := by
  rw [exec_noteQueued, tryNote_idle hr]
  exact event_comesTo (comesTo_nil h)

/-! ## The end of an event in which no transmitter chooses -/

/-- R155: with neither partner ready, no transmitter chooses. -/
theorem chooseBoth_unready {s : State} (h : ∀ p, (s.port p).partnerReady = false) : s.chooseBoth = s := by
  have hidle (p : Port) : s.chooseFrame p = s := chooseFrame_idle (.inl (by simp [PortState.canChoose, h p]))
  rw [State.chooseBoth, hidle .up, hidle .dn]

/-- R191: such an event ends with the NOTE, where it is ready and the event set its mark or no request waits. -/
theorem endEvent_unready {s : State} (h : ∀ p, (s.port p).partnerReady = false) (owed : Bool) :
    s.endEvent owed
      = if s.noteReady = true ∧ (owed = false ∨ s.queues.cfgIn = []) then s.queueNote else s := by
  have hnote : s.queueNote.chooseBoth = s.queueNote := chooseBoth_unready fun p => by rw [queueNote_port, h p]
  rw [State.endEvent, chooseBoth_unready h, hnote]
  simp

end Sys2Proof.Machine

open Sys2Proof Sys2Proof.Machine in
/-- Settles O14: the frame's fate is DENY, whose reply reads the header alone. -/
theorem deniedReplyToSegment : Obligations.DeniedReplyToSegment := by
  intro f s hf hup hk hdest hroom
  have hfate : s.fate .dn f = .deny := by rw [(fate_of_request hk s).2, if_pos hdest]
  have hplace : s.hasPlace .dnOwn = true := (hasPlace_iff s .dnOwn).mpr hroom
  have hother (r : Port) (hr : r ≠ .dn) : (s.port r).head = none := by
    cases r
    · exact hup
    · exact absurd rfl hr
  have hplain : f.kind ≠ .sig := by obtain hk | hk := hk <;> simp [hk]
  have htaken := comesTo_judge (p := .dn) hf hother (.inl hplain) (by simp [hfate, State.fits, Fate.queue, hplace])
  have hreply : (s.setPort .dn { s.port .dn with head := none }).carryFate .deny f
      = (s.setPort .dn { s.port .dn with head := none }).setQueue .dnOwn (s.queues.dnOwn ++ [deniedReply f]) :=
    enqueue_of_place (s := s.setPort .dn { s.port .dn with head := none }) hplace _
  rw [hfate, hreply] at htaken
  exact event_comesTo htaken

open Sys2Proof Sys2Proof.Machine in
/-- Settles O46: the argument is judged for two of the five commands, and each answers with what it leaves. -/
theorem commandsOfTableZero : Obligations.CommandsOfTableZero := by
  intro tag arg s h
  rw [getLsbD_fifteen]
  refine ⟨fun hfit => ?fits, fun hbig => ?outOfRange, request_command h (by decide) rfl,
    request_command h (by decide) rfl, ?counters⟩
  case fits =>
    have hlt : arg.toNat < 32768 := not_le.mp (of_decide_eq_false hfit)
    rw [← BitVec.ofNat_toNat]
    exact ⟨request_command h (by decide) (command_clearNotices hlt),
      request_command h (by decide) (command_setNoticeEnable hlt)⟩
  case outOfRange =>
    have hle : 32768 ≤ arg.toNat := of_decide_eq_true hbig
    exact ⟨request_command h (by decide) (command_noticesBadValue (.inl rfl) hle),
      request_command h (by decide) (command_noticesBadValue (.inr rfl) hle)⟩
  case counters => exact ⟨s.clearCounters, request_command h (by decide) rfl, rfl, clearCounters_agents s⟩

open Sys2Proof Sys2Proof.Machine in
/-- Settles O16: NOTE_QUEUED and an event's end queue the same NOTE; requests that wait bear on the end alone. -/
theorem owedNoteIsQueued : Obligations.OwedNoteIsQueued := by
  refine ⟨fun s => ?note, fun n s => ?raised, rfl⟩
  case note =>
    intro queued
    have hqueued (hr : s.noteReady = true) : s.queueNote = queued := queueNote_eq hr
    refine ⟨fun h howed hup hroom => ?_, fun h hnone => ?_, fun owed hu hd => ?_⟩
    · have hr := (noteReady_iff_length s).mpr ⟨howed, hup, hroom⟩
      rw [exec_noteQueued_ready h hr, hqueued hr]
    · refine exec_noteQueued_idle h (Bool.eq_false_iff.mpr fun hr => ?_)
      obtain ⟨howed, hup, hroom⟩ := (noteReady_iff_length s).mp hr
      simp [howed, hup, not_le.mpr hroom] at hnone
    · rw [endEvent_unready (by rintro (_ | _) <;> assumption)]
      simp only [noteReady_iff_length, and_assoc]
      split
      · rename_i hnote
        obtain ⟨howed, hup, hroom, -⟩ := hnote
        exact hqueued ((noteReady_iff_length s).mpr ⟨howed, hup, hroom⟩)
      · rfl
  case raised =>
    refine ⟨s.notices.raise n, rfl, rfl, fun j => ?_, fun hclear hon => ?_, fun hkept => ?_⟩
    · simp [NoticeUnit.raise, Notice.getLsbD_mask]
    · simp [NoticeUnit.raise, hclear, hon]
    · obtain hset | hoff := hkept
      · simp [NoticeUnit.raise, hset]
      · simp [NoticeUnit.raise, hoff]
end

section
/-! # Reads

A read of a table answers with the record's fields in order (R185), which Tables 11-3 to 11-5 spell byte by byte. -/

-- One declaration at a time: the threads that would wait for the kernel go past the limit on memory.
set_option Elab.async false

namespace Sys2Proof.Machine

open Sys2Proof

/-! ## What a read does -/

section
variable {s : State} {table index : Nat}

/-- R85: a read of a table other than the domains' status leaves the change flags. -/
theorem afterRead_of_ne (ht : table ≠ 7) : s.afterRead table index = s := by
  simp [State.afterRead, ht]

theorem afterRead_status (d : DomainId) : s.afterRead 7 d.val = s.setDom d { s.dom d with change := false } := by
  simp [State.afterRead, recordIndex_val]

/-- R183, R185: a read that passes the checks answers with the record. -/
theorem executeRead_record {record : List Byte} (h0 : table ≠ 0) (hle : table ≤ 14)
    (hindex : indexInRange table index = true) (hrecord : s.readBytes table index = some record) :
    s.executeRead table index = (s.afterRead table index, .ok, record) := by
  simp [State.executeRead, h0, not_lt.mpr hle, hindex, hrecord]

theorem readBytes_of_fields {layout : List FieldSpec} {fields : List Nat} {record : List Byte} (ht : table ≠ 14)
    (hlayout : tableLayout table = some layout) (hfields : s.recordFields table index = some fields)
    (hbytes : recordBytes layout fields = record) : s.readBytes table index = some record := by
  simp [State.readBytes, ht, hlayout, hfields, hbytes]

end

/-! ## The bytes of each record (Table 11-3) -/

/-- Fields that stand before others have their bytes before theirs. -/
theorem recordBytes_append {front back : List FieldSpec} {vs ws : List Nat} (h : front.length = vs.length) :
    recordBytes (front ++ back) (vs ++ ws) = recordBytes front vs ++ recordBytes back ws := by
  simp [recordBytes, List.zip_append h]

theorem countRecord_bytes (n : Nat) : recordBytes [rw 1] [n] = [BitVec.ofNat 8 n] := by
  simp [recordBytes, rw, fieldBytes_one]

theorem readBytes_header (s : State) (k : SlotId) :
    s.readBytes 1 k.val = some [BitVec.ofNat 8 (s.staged.plans.get k).count]
      ∧ s.readBytes 3 k.val = some [BitVec.ofNat 8 (s.active.plans.get k).count] :=
  ⟨readBytes_of_fields (by decide) rfl (congrArg (Option.map _) (recordIndex_val k)) (countRecord_bytes _),
    readBytes_of_fields (by decide) rfl (congrArg (Option.map _) (recordIndex_val k)) (countRecord_bytes _)⟩

theorem stepRecord_bytes (t : Step) :
    recordBytes [rw 1, rw 1, rw 1, rw 1, rw 1, rw 1, rw 1, rw 2, rw 1, rw 1, rw 1] t.fields = t.bytes := by
  simp [recordBytes, Step.fields, rw, fieldBytes_one, Step.bytes]

theorem readBytes_step (s : State) (k : SlotId) (i : Fin 32) :
    s.readBytes 2 (32 * k.val + i.val) = some ((s.staged.plans.get k).steps.get i).bytes
      ∧ s.readBytes 4 (32 * k.val + i.val) = some ((s.active.plans.get k).steps.get i).bytes :=
  ⟨readBytes_of_fields (by decide) rfl (congrArg (Option.map _) (stepPlace_index k i)) (stepRecord_bytes _),
    readBytes_of_fields (by decide) rfl (congrArg (Option.map _) (stepPlace_index k i)) (stepRecord_bytes _)⟩

theorem configRecord_bytes (c : DomainConfig) :
    recordBytes [rw 1, rw 1, rw 1, rw 1, rw 2, rw 2, rw 2, rw 2, rw 2] c.fields = c.bytes := by
  simp [recordBytes, DomainConfig.fields, rw, fieldBytes_one, DomainConfig.bytes]

theorem readBytes_config (s : State) (d : DomainId) :
    s.readBytes 5 d.val = some (s.staged.domains.get d).bytes
      ∧ s.readBytes 6 d.val = some (s.active.domains.get d).bytes :=
  ⟨readBytes_of_fields (by decide) rfl (congrArg (Option.map _) (recordIndex_val d)) (configRecord_bytes _),
    readBytes_of_fields (by decide) rfl (congrArg (Option.map _) (recordIndex_val d)) (configRecord_bytes _)⟩

/-- R65: the bytes of a last rise or fall. -/
theorem ramp_bytes (o : Option Ramp) :
    recordBytes [ro 2, ro 1] (rampFields o) =
      match o with
      | none => [0, 0, 0]
      | some x => fieldBytes 2 x.value ++ ([match x.cls with | .fast => 1 | .ok => 2 | .slow => 3] : List Byte) := by
  match o with
  | none => rfl
  | some ⟨value, .fast⟩ | some ⟨value, .ok⟩ | some ⟨value, .slow⟩ =>
    simp [recordBytes, rampFields, RampClass.code, ro, fieldBytes_one]

theorem rampFields_length (o : Option Ramp) : (rampFields o).length = 2 := by
  cases o <;> rfl

theorem avgCode_eq (o : Option Nat) : avgCode o = o.getD 0xFFFFFF := by
  cases o <;> rfl

theorem domainState_byte (x : DomainState) :
    BitVec.ofNat 8 x.code = match x with | .off => 0 | .rising => 1 | .on => 2 | .falling => 3 | .fault => 4 := by
  cases x <;> rfl

theorem faultCause_byte (o : Option FaultCause) :
    BitVec.ofNat 8 (faultCauseCode o) =
      match o with | none => 0 | some .timeout => 1 | some .pgLost => 2 | some .parentLost => 3 := by
  match o with
  | none | some .timeout | some .pgLost | some .parentLost => rfl

/-- R85: the bytes of a domain's status: four fields, the last rise, the last fall, and five fields. -/
theorem statusRecord_bytes (r : DomainRuntime) :
    recordBytes [ro 1, ro 1, ro 1, ro 1, ro 2, ro 1, ro 2, ro 1, ro 3, ro 3, ro 1, ro 1, ro 1] r.fields
      = [BitVec.ofNat 8 r.state.code, BitVec.ofNat 8 (faultCauseCode r.cause), if r.pg then 1 else 0,
          if r.overrange then 1 else 0]
        ++ recordBytes [ro 2, ro 1] (rampFields r.lastRise) ++ recordBytes [ro 2, ro 1] (rampFields r.lastFall)
        ++ fieldBytes 3 (r.riseAvg.getD 0xFFFFFF) ++ fieldBytes 3 (r.fallAvg.getD 0xFFFFFF)
        ++ [if r.hold.isSome then 1 else 0, if r.stray then 1 else 0, if r.change then 1 else 0] := by
  change recordBytes
    ([ro 1, ro 1, ro 1, ro 1] ++ [ro 2, ro 1] ++ [ro 2, ro 1] ++ [ro 3, ro 3, ro 1, ro 1, ro 1]) r.fields = _
  rw [DomainRuntime.fields, recordBytes_append (by simp [rampFields_length]),
    recordBytes_append (by simp [rampFields_length]), recordBytes_append rfl]
  simp [recordBytes, ro, fieldBytes_one, boolCode_byte, avgCode_eq]

theorem readBytes_status (s : State) (d : DomainId) {record : List Byte}
    (h : recordBytes [ro 1, ro 1, ro 1, ro 1, ro 2, ro 1, ro 2, ro 1, ro 3, ro 3, ro 1, ro 1, ro 1] (s.dom d).fields
      = record) : s.readBytes 7 d.val = some record :=
  readBytes_of_fields (by decide) rfl (congrArg (Option.map _) (recordIndex_val d)) h

/-- R85: the read of a domain's status clears the change flag. -/
theorem executeRead_status {s : State} {d : DomainId} {record : List Byte} (h : s.readBytes 7 d.val = some record) :
    s.executeRead 7 d.val = (s.setDom d { s.dom d with change := false }, .ok, record) := by
  rw [executeRead_record (by decide) (by decide) (by simp [indexInRange, tableRange]) h, afterRead_status]

theorem readBytes_statistics (s : State) (d : DomainId) :
    s.readBytes 8 d.val
      = some (BitVec.ofNat 8 (boolCode (s.dom d).counting) :: ((s.dom d).statFields.drop 1).flatMap (fieldBytes 2)) :=
  readBytes_of_fields (by decide) rfl (congrArg (Option.map _) (recordIndex_val d))
    (by simp [recordBytes, DomainRuntime.statFields, rw, ro, fieldBytes_one])

theorem readBytes_signal (s : State) (i : Fin 64) :
    s.readBytes 9 i.val = some ((s.signals.get i).fields.map (BitVec.ofNat 8)) :=
  readBytes_of_fields (by decide) rfl (congrArg (Option.map _) (recordIndex_val i))
    (by simp [recordBytes, SignalEntry.fields, rw, ro, fieldBytes_one])

theorem readBytes_wake (s : State) (n : SourceId) :
    s.readBytes 10 n.val = some ((s.wakes.get n).fields.map (BitVec.ofNat 8)) :=
  readBytes_of_fields (by decide) rfl (congrArg (Option.map _) (recordIndex_val n))
    (by simp [recordBytes, WakeRecord.fields, rw, fieldBytes_one])

theorem readBytes_capture (s : State) (n : SourceId) :
    s.readBytes 11 n.val
      = some (((s.captures.get n).fields.take 3).map (BitVec.ofNat 8) ++ fieldBytes 2 (s.captures.get n).milli.toNat
          ++ ((s.captures.get n).fields.drop 4).map (BitVec.ofNat 8)) :=
  readBytes_of_fields (by decide) rfl (congrArg (Option.map _) (recordIndex_val n))
    (by simp [recordBytes, CaptureRecord.fields, ro, fieldBytes_one])

theorem readBytes_agent (s : State) (a : Fin 14) :
    s.readBytes 12 (a.val + 1) = some ((s.agents.get a).fields.map (BitVec.ofNat 8)) :=
  readBytes_of_fields (by decide) rfl (congrArg (Option.map _) (recordIndex_val a))
    (by simp [recordBytes, AgentRecord.fields, rw, fieldBytes_one])

/-- Table 13: the bytes of one copy of a pattern. -/
def IndPattern.bytes (q : IndPattern) : List Byte :=
  BitVec.ofNat 8 q.mode.code :: fieldBytes 2 q.period ++ fieldBytes 2 q.onTime ++ [BitVec.ofNat 8 (boolCode q.inverted)]

/-- R120, R126: the buffered copy, the working copy, and the button's times at index 0. -/
theorem patternRecord_bytes (s : State) (k : Fin 4) :
    recordBytes [rw 1, rw 2, rw 2, rw 1, ro 1, ro 2, ro 2, ro 1, rw 1, rw 2] (s.patternFields k)
      = (s.indicator.buffered.get k).bytes ++ (s.indicator.working.get k).bytes
        ++ if k = 0 then BitVec.ofNat 8 s.button.debounce :: fieldBytes 2 s.button.override else [0, 0, 0] := by
  by_cases hk : k = 0
  · simp [recordBytes, State.patternFields, IndPattern.fields, IndPattern.bytes, hk, rw, ro, fieldBytes_one]
  · simp [recordBytes, State.patternFields, IndPattern.fields, IndPattern.bytes, hk, rw, ro, fieldBytes_one,
      fieldBytes_two]

theorem readBytes_pattern (s : State) (k : Fin 4) :
    s.readBytes 13 k.val
      = some ((s.indicator.buffered.get k).bytes ++ (s.indicator.working.get k).bytes
          ++ if k = 0 then BitVec.ofNat 8 s.button.debounce :: fieldBytes 2 s.button.override else [0, 0, 0]) :=
  readBytes_of_fields (by decide) rfl (congrArg (Option.map _) (recordIndex_val k)) (patternRecord_bytes s k)

/-- Table 11-5: the part status record's bytes and words, in its order. -/
theorem statusBytes_eq (s : State) :
    s.statusBytes
      = [s.platform.code + 16 * s.requested.code, (match s.ctx.slot with | none => 255 | some k => k.val), s.ctx.index,
          s.currentLabel, s.markByte, s.undo.length, (abortCode s.lastAbort).1, (abortCode s.lastAbort).2,
          wakeCauseCode s.wakeCause, (tripCode s.trip.first).1, (tripCode s.trip.first).2,
          s.trip.secondary].map (BitVec.ofNat 8)
        ++ [s.notices.flags.toNat, s.notices.enables.toNat].flatMap (fieldBytes 2)
        ++ [s.pendingByte, s.statusPair 0 1, s.statusPair 2 3, s.statusPair 4 5, s.statusPair 6 7].map (BitVec.ofNat 8)
        ++ [s.up.errors, s.up.discards, s.dn.errors, s.dn.discards].flatMap (fieldBytes 2) := by
  simp only [State.statusBytes, State.statusValues, List.flatMap_cons, fieldBytes_one]
  rfl

theorem readBytes_part (s : State) : s.readBytes 14 0 = some s.statusBytes := rfl

/-- A step's index is its slot's thirty-two and its place. -/
theorem exists_step_index {index : Nat} (h : index < 224) :
    ∃ (k : SlotId) (i : Fin 32), index = 32 * k.val + i.val :=
  ⟨⟨index / 32, by omega⟩, ⟨index % 32, by omega⟩, (Nat.div_add_mod index 32).symm⟩

/-- R183, R185: a readable table has a record at every index in its range. -/
theorem exists_readBytes {table index : Nat} (ht : table ∈ [1, 2, 3, 4, 5, 6, 8, 9, 10, 11, 12, 13, 14])
    (hindex : indexInRange table index = true) (s : State) : ∃ record, s.readBytes table index = some record := by
  simp only [indexInRange, Bool.and_eq_true, decide_eq_true_eq] at hindex
  obtain ⟨hfirst, hlast⟩ := hindex
  simp only [List.mem_cons, List.not_mem_nil, or_false] at ht
  obtain rfl | rfl | rfl | rfl | rfl | rfl | rfl | rfl | rfl | rfl | rfl | rfl | rfl := ht <;>
    simp only [tableRange, Nat.zero_add] at hfirst hlast
  · exact ⟨_, (readBytes_header s ⟨index, hlast⟩).1⟩
  · obtain ⟨k, i, rfl⟩ := exists_step_index hlast
    exact ⟨_, (readBytes_step s k i).1⟩
  · exact ⟨_, (readBytes_header s ⟨index, hlast⟩).2⟩
  · obtain ⟨k, i, rfl⟩ := exists_step_index hlast
    exact ⟨_, (readBytes_step s k i).2⟩
  · exact ⟨_, (readBytes_config s ⟨index, hlast⟩).1⟩
  · exact ⟨_, (readBytes_config s ⟨index, hlast⟩).2⟩
  · exact ⟨_, readBytes_statistics s ⟨index, hlast⟩⟩
  · exact ⟨_, readBytes_signal s ⟨index, hlast⟩⟩
  · exact ⟨_, readBytes_wake s ⟨index, hlast⟩⟩
  · exact ⟨_, readBytes_capture s ⟨index, hlast⟩⟩
  · obtain ⟨a, rfl⟩ := Nat.exists_eq_add_of_le' hfirst
    exact ⟨_, readBytes_agent s ⟨a, by omega⟩⟩
  · exact ⟨_, readBytes_pattern s ⟨index, hlast⟩⟩
  · obtain rfl : index = 0 := by omega
    exact ⟨_, readBytes_part s⟩

end Sys2Proof.Machine

open Sys2Proof Sys2Proof.Machine in
/-- Settles O45: the checks pass at every index of a readable table, and each record's bytes are those of its fields. -/
theorem readsAnswerWithTheRecord : Obligations.ReadsAnswerWithTheRecord := by
  refine ⟨fun tag s h => ⟨fun d => ?status, fun table index ht hindex => ?other⟩, fun s => ?records, rfl, rfl, rfl, rfl,
    rfl, fun d => ⟨rfl, rfl⟩, rfl, rfl, rfl, rfl, rfl, rfl, rfl, rfl, rfl, rfl, rfl, rfl, rfl,
    fun n i => ⟨rfl, rfl, rfl, rfl, rfl⟩, fun d i => rfl⟩
  case status =>
    refine request_read h ?_
    rw [toNat_ofNat_domain]
    have hrecord := statusRecord_bytes (s.dom d)
    rw [ramp_bytes, ramp_bytes, domainState_byte, faultCause_byte] at hrecord
    exact executeRead_status (readBytes_status s d hrecord)
  case other =>
    obtain ⟨record, hrecord⟩ := exists_readBytes ht hindex s
    refine ⟨record, hrecord, readBytes_length_le hrecord, request_read h ?_⟩
    simp only [List.mem_cons, List.not_mem_nil, or_false] at ht
    rw [executeRead_record (by omega) (by omega) hindex hrecord, afterRead_of_ne (by omega)]
  case records =>
    intro bytes words bit step config pattern
    exact ⟨fun k => ⟨(readBytes_header s k).1, (readBytes_header s k).2, readBytes_step s k⟩,
      fun d => ⟨(readBytes_config s d).1, (readBytes_config s d).2, readBytes_statistics s d⟩, readBytes_signal s,
      fun n => ⟨readBytes_wake s n, readBytes_capture s n⟩, readBytes_agent s, readBytes_pattern s,
      (readBytes_part s).trans (congrArg some (statusBytes_eq s)), statusBytes_length s⟩
end
